-- ==== Sys2Proof/Word.lean ====
section
/-! DEFINITION. The two data widths of the hardware (00_scope.md rule R7). -/

namespace Sys2Proof

/-- The 8-bit data unit, `u8` (rules R7, R10). -/
abbrev Byte := BitVec 8

/-- The 16-bit width of SP, PC, the register pairs and every address, `u16` (rules R7, R10). -/
abbrev Word := BitVec 16

end Sys2Proof
end

