-- ==== Sys2Proof/Syntax.lean ====
section
/-! DEFINITION. The syntax: one constructor for each of the 512 rows of spec/opcode_table.json (30_encoding.md
rules R122, R123, R126). An instruction carries its 0 to 2 immediate bytes as they stand in memory after the
opcode, as rule R111 has it: `n8` is the byte at pc+1; `m1` and `m2` are the bytes at pc+1 and pc+2 of a 16-bit
immediate, joined only when the instruction runs, in the order of 20_memory.md rule R82; `pad` is the ignored
second byte of `STOP` (rule R110). Names: `At` marks a memory operand, so `ldAAtHLInc` is `LD A,(HL+)`.
The rows with immediates stand first, then the others, each in the table's order. -/

namespace Sys2Proof

/-- An instruction. LAWS.json gives each constructor's row. `prefixCB` is the row of the prefix byte with the
byte after it; it is no instruction of its own (47_cpu_control.md rule R325, log 8). -/
inductive Instr where
  | ldBCD16 (m1 m2 : Byte)
  | ldBD8 (n8 : Byte)
  | ldAtA16SP (m1 m2 : Byte)
  | ldCD8 (n8 : Byte)
  | stop (pad : Byte)
  | ldDED16 (m1 m2 : Byte)
  | ldDD8 (n8 : Byte)
  | jrR8 (n8 : Byte)
  | ldED8 (n8 : Byte)
  | jrNZR8 (n8 : Byte)
  | ldHLD16 (m1 m2 : Byte)
  | ldHD8 (n8 : Byte)
  | jrZR8 (n8 : Byte)
  | ldLD8 (n8 : Byte)
  | jrNCR8 (n8 : Byte)
  | ldSPD16 (m1 m2 : Byte)
  | ldAtHLD8 (n8 : Byte)
  | jrCR8 (n8 : Byte)
  | ldAD8 (n8 : Byte)
  | jpNZA16 (m1 m2 : Byte)
  | jpA16 (m1 m2 : Byte)
  | callNZA16 (m1 m2 : Byte)
  | addAD8 (n8 : Byte)
  | jpZA16 (m1 m2 : Byte)
  | prefixCB (op : Byte)
  | callZA16 (m1 m2 : Byte)
  | callA16 (m1 m2 : Byte)
  | adcAD8 (n8 : Byte)
  | jpNCA16 (m1 m2 : Byte)
  | callNCA16 (m1 m2 : Byte)
  | subD8 (n8 : Byte)
  | jpCA16 (m1 m2 : Byte)
  | callCA16 (m1 m2 : Byte)
  | sbcAD8 (n8 : Byte)
  | ldhAtA8A (n8 : Byte)
  | andD8 (n8 : Byte)
  | addSPR8 (n8 : Byte)
  | ldAtA16A (m1 m2 : Byte)
  | xorD8 (n8 : Byte)
  | ldhAAtA8 (n8 : Byte)
  | orD8 (n8 : Byte)
  | ldHLSPR8 (n8 : Byte)
  | ldAAtA16 (m1 m2 : Byte)
  | cpD8 (n8 : Byte)
  | nop
  | ldAtBCA
  | incBC
  | incB
  | decB
  | rlca
  | addHLBC
  | ldAAtBC
  | decBC
  | incC
  | decC
  | rrca
  | ldAtDEA
  | incDE
  | incD
  | decD
  | rla
  | addHLDE
  | ldAAtDE
  | decDE
  | incE
  | decE
  | rra
  | ldAtHLIncA
  | incHL
  | incH
  | decH
  | daa
  | addHLHL
  | ldAAtHLInc
  | decHL
  | incL
  | decL
  | cpl
  | ldAtHLDecA
  | incSP
  | incAtHL
  | decAtHL
  | scf
  | addHLSP
  | ldAAtHLDec
  | decSP
  | incA
  | decA
  | ccf
  | ldBB
  | ldBC
  | ldBD
  | ldBE
  | ldBH
  | ldBL
  | ldBAtHL
  | ldBA
  | ldCB
  | ldCC
  | ldCD
  | ldCE
  | ldCH
  | ldCL
  | ldCAtHL
  | ldCA
  | ldDB
  | ldDC
  | ldDD
  | ldDE
  | ldDH
  | ldDL
  | ldDAtHL
  | ldDA
  | ldEB
  | ldEC
  | ldED
  | ldEE
  | ldEH
  | ldEL
  | ldEAtHL
  | ldEA
  | ldHB
  | ldHC
  | ldHD
  | ldHE
  | ldHH
  | ldHL
  | ldHAtHL
  | ldHA
  | ldLB
  | ldLC
  | ldLD
  | ldLE
  | ldLH
  | ldLL
  | ldLAtHL
  | ldLA
  | ldAtHLB
  | ldAtHLC
  | ldAtHLD
  | ldAtHLE
  | ldAtHLH
  | ldAtHLL
  | halt
  | ldAtHLA
  | ldAB
  | ldAC
  | ldAD
  | ldAE
  | ldAH
  | ldAL
  | ldAAtHL
  | ldAA
  | addAB
  | addAC
  | addAD
  | addAE
  | addAH
  | addAL
  | addAAtHL
  | addAA
  | adcAB
  | adcAC
  | adcAD
  | adcAE
  | adcAH
  | adcAL
  | adcAAtHL
  | adcAA
  | subB
  | subC
  | subD
  | subE
  | subH
  | subL
  | subAtHL
  | subA
  | sbcAB
  | sbcAC
  | sbcAD
  | sbcAE
  | sbcAH
  | sbcAL
  | sbcAAtHL
  | sbcAA
  | andB
  | andC
  | andD
  | andE
  | andH
  | andL
  | andAtHL
  | andA
  | xorB
  | xorC
  | xorD
  | xorE
  | xorH
  | xorL
  | xorAtHL
  | xorA
  | orB
  | orC
  | orD
  | orE
  | orH
  | orL
  | orAtHL
  | orA
  | cpB
  | cpC
  | cpD
  | cpE
  | cpH
  | cpL
  | cpAtHL
  | cpA
  | retNZ
  | popBC
  | pushBC
  | rst00
  | retZ
  | ret
  | rst08
  | retNC
  | popDE
  | illegalD3
  | pushDE
  | rst10
  | retC
  | reti
  | illegalDB
  | illegalDD
  | rst18
  | popHL
  | ldAtCA
  | illegalE3
  | illegalE4
  | pushHL
  | rst20
  | jpHL
  | illegalEB
  | illegalEC
  | illegalED
  | rst28
  | popAF
  | ldAAtC
  | di
  | illegalF4
  | pushAF
  | rst30
  | ldSPHL
  | ei
  | illegalFC
  | illegalFD
  | rst38
  | rlcB
  | rlcC
  | rlcD
  | rlcE
  | rlcH
  | rlcL
  | rlcAtHL
  | rlcA
  | rrcB
  | rrcC
  | rrcD
  | rrcE
  | rrcH
  | rrcL
  | rrcAtHL
  | rrcA
  | rlB
  | rlC
  | rlD
  | rlE
  | rlH
  | rlL
  | rlAtHL
  | rlA
  | rrB
  | rrC
  | rrD
  | rrE
  | rrH
  | rrL
  | rrAtHL
  | rrA
  | slaB
  | slaC
  | slaD
  | slaE
  | slaH
  | slaL
  | slaAtHL
  | slaA
  | sraB
  | sraC
  | sraD
  | sraE
  | sraH
  | sraL
  | sraAtHL
  | sraA
  | swapB
  | swapC
  | swapD
  | swapE
  | swapH
  | swapL
  | swapAtHL
  | swapA
  | srlB
  | srlC
  | srlD
  | srlE
  | srlH
  | srlL
  | srlAtHL
  | srlA
  | bit0B
  | bit0C
  | bit0D
  | bit0E
  | bit0H
  | bit0L
  | bit0AtHL
  | bit0A
  | bit1B
  | bit1C
  | bit1D
  | bit1E
  | bit1H
  | bit1L
  | bit1AtHL
  | bit1A
  | bit2B
  | bit2C
  | bit2D
  | bit2E
  | bit2H
  | bit2L
  | bit2AtHL
  | bit2A
  | bit3B
  | bit3C
  | bit3D
  | bit3E
  | bit3H
  | bit3L
  | bit3AtHL
  | bit3A
  | bit4B
  | bit4C
  | bit4D
  | bit4E
  | bit4H
  | bit4L
  | bit4AtHL
  | bit4A
  | bit5B
  | bit5C
  | bit5D
  | bit5E
  | bit5H
  | bit5L
  | bit5AtHL
  | bit5A
  | bit6B
  | bit6C
  | bit6D
  | bit6E
  | bit6H
  | bit6L
  | bit6AtHL
  | bit6A
  | bit7B
  | bit7C
  | bit7D
  | bit7E
  | bit7H
  | bit7L
  | bit7AtHL
  | bit7A
  | res0B
  | res0C
  | res0D
  | res0E
  | res0H
  | res0L
  | res0AtHL
  | res0A
  | res1B
  | res1C
  | res1D
  | res1E
  | res1H
  | res1L
  | res1AtHL
  | res1A
  | res2B
  | res2C
  | res2D
  | res2E
  | res2H
  | res2L
  | res2AtHL
  | res2A
  | res3B
  | res3C
  | res3D
  | res3E
  | res3H
  | res3L
  | res3AtHL
  | res3A
  | res4B
  | res4C
  | res4D
  | res4E
  | res4H
  | res4L
  | res4AtHL
  | res4A
  | res5B
  | res5C
  | res5D
  | res5E
  | res5H
  | res5L
  | res5AtHL
  | res5A
  | res6B
  | res6C
  | res6D
  | res6E
  | res6H
  | res6L
  | res6AtHL
  | res6A
  | res7B
  | res7C
  | res7D
  | res7E
  | res7H
  | res7L
  | res7AtHL
  | res7A
  | set0B
  | set0C
  | set0D
  | set0E
  | set0H
  | set0L
  | set0AtHL
  | set0A
  | set1B
  | set1C
  | set1D
  | set1E
  | set1H
  | set1L
  | set1AtHL
  | set1A
  | set2B
  | set2C
  | set2D
  | set2E
  | set2H
  | set2L
  | set2AtHL
  | set2A
  | set3B
  | set3C
  | set3D
  | set3E
  | set3H
  | set3L
  | set3AtHL
  | set3A
  | set4B
  | set4C
  | set4D
  | set4E
  | set4H
  | set4L
  | set4AtHL
  | set4A
  | set5B
  | set5C
  | set5D
  | set5E
  | set5H
  | set5L
  | set5AtHL
  | set5A
  | set6B
  | set6C
  | set6D
  | set6E
  | set6H
  | set6L
  | set6AtHL
  | set6A
  | set7B
  | set7C
  | set7D
  | set7E
  | set7H
  | set7L
  | set7AtHL
  | set7A
deriving DecidableEq, Repr

end Sys2Proof
end

