-- ==== Sys2Proof/WellFormed.lean ====
section
/-! DEFINITION. Which terms of `Instr` are instructions. Every operand field is a type of exactly the width the
encoding gives it, so no operand value is ill formed. The one check: the 0xCB prefix is not an instruction by
itself (47_cpu_control.md rule R325). -/

namespace Sys2Proof

/-- The row of the prefix byte. -/
def Instr.isPrefixRow : Instr → Bool
  | .prefixCB _ => true
  | _ => false

/-- An instruction is well formed unless it is the bare prefix row (rules R128, R325). -/
def Instr.wf (i : Instr) : Bool := !i.isPrefixRow

end Sys2Proof
end

