-- ==== Sys2Proof/Decode.lean ====
section
/-! DEFINITION. Decoding, total on any bytes and rejecting by name, then the encoder, both from the encoding
tables of 30_encoding.md. Decoding goes through the bit fields of rules R114 to R119 and R124; the encoder goes
through each row's own opcode byte (rules R122, R123), so that their agreement says something. -/

namespace Sys2Proof

/-! ## The values of the encoding's fields -/

/-- The seven 8-bit registers an operand field can name (rule R115). -/
inductive R7 where
  | b | c | d | e | h | l | a
deriving DecidableEq, Repr

/-- The r8 operand of `ddd`, `sss` and `rrr`: a register, or the memory byte at HL (rule R115). -/
inductive Operand8 where
  | reg (r : R7)
  | atHL
deriving DecidableEq, Repr

/-- The pair field of `LD rr,d16`, `ADD HL,rr`, `INC rr` and `DEC rr` (rule R116, first table). -/
inductive RR where
  | bc | de | hl | sp
deriving DecidableEq, Repr

/-- The pair field of `PUSH` and `POP` (rule R116, second table). -/
inductive QQ where
  | bc | de | hl | af
deriving DecidableEq, Repr

/-- The condition field (rule R117). -/
inductive Cond where
  | nz | z | nc | c
deriving DecidableEq, Repr

/-- The ALU operation field (rule R118). -/
inductive AluOp where
  | add | adc | sub | sbc | and | xor | or | cp
deriving DecidableEq, Repr

/-- The rotate and shift operation field of the CB opcodes (rule R118). -/
inductive ShiftOp where
  | rlc | rrc | rl | rr | sla | sra | swap | srl
deriving DecidableEq, Repr

/-- `x = op[7:6]` (rule R114). -/
def fieldX (op : Byte) : Nat := op.toNat / 64

/-- `y = op[5:3]` (rule R114). -/
def fieldY (op : Byte) : Nat := op.toNat / 8 % 8

/-- `z = op[2:0]` (rule R114). -/
def fieldZ (op : Byte) : Nat := op.toNat % 8

/-- `p = op[5:4]` (rule R114). -/
def fieldP (op : Byte) : Nat := op.toNat / 16 % 4

/-- `q = op[3]` (rule R114). -/
def fieldQ (op : Byte) : Nat := op.toNat / 8 % 2

/-- The r8 table of rule R115; the argument is a 3-bit field. -/
def Operand8.ofField : Nat → Operand8
  | 0 => .reg .b
  | 1 => .reg .c
  | 2 => .reg .d
  | 3 => .reg .e
  | 4 => .reg .h
  | 5 => .reg .l
  | 6 => .atHL
  | _ => .reg .a

/-- The first pair table of rule R116; the argument is a 2-bit field. -/
def RR.ofField : Nat → RR
  | 0 => .bc
  | 1 => .de
  | 2 => .hl
  | _ => .sp

/-- The second pair table of rule R116; the argument is a 2-bit field. -/
def QQ.ofField : Nat → QQ
  | 0 => .bc
  | 1 => .de
  | 2 => .hl
  | _ => .af

/-- The condition table of rule R117; the argument is a 2-bit field. -/
def Cond.ofField : Nat → Cond
  | 0 => .nz
  | 1 => .z
  | 2 => .nc
  | _ => .c

/-- The ALU table of rule R118; the argument is a 3-bit field. -/
def AluOp.ofField : Nat → AluOp
  | 0 => .add
  | 1 => .adc
  | 2 => .sub
  | 3 => .sbc
  | 4 => .and
  | 5 => .xor
  | 6 => .or
  | _ => .cp

/-- The rotate table of rule R118; the argument is a 3-bit field. -/
def ShiftOp.ofField : Nat → ShiftOp
  | 0 => .rlc
  | 1 => .rrc
  | 2 => .rl
  | 3 => .rr
  | 4 => .sla
  | 5 => .sra
  | 6 => .swap
  | _ => .srl

/-- The bit number `bbb` as one of the eight bits (rule R114). -/
def bitOfField (n : Nat) : Fin 8 := ⟨n % 8, Nat.mod_lt _ (by decide)⟩

/-! ## Rows by their operand fields

`Row.f` is the table's row for the named fields, so that a rule about a family can name its rows. -/

/-- `LD ddd,sss` (0x40-0x7F); both fields 6 is `HALT` (rule R124). -/
def Row.ld : Operand8 → Operand8 → Instr
  | .reg .b, .reg .b => .ldBB
  | .reg .b, .reg .c => .ldBC
  | .reg .b, .reg .d => .ldBD
  | .reg .b, .reg .e => .ldBE
  | .reg .b, .reg .h => .ldBH
  | .reg .b, .reg .l => .ldBL
  | .reg .b, .atHL => .ldBAtHL
  | .reg .b, .reg .a => .ldBA
  | .reg .c, .reg .b => .ldCB
  | .reg .c, .reg .c => .ldCC
  | .reg .c, .reg .d => .ldCD
  | .reg .c, .reg .e => .ldCE
  | .reg .c, .reg .h => .ldCH
  | .reg .c, .reg .l => .ldCL
  | .reg .c, .atHL => .ldCAtHL
  | .reg .c, .reg .a => .ldCA
  | .reg .d, .reg .b => .ldDB
  | .reg .d, .reg .c => .ldDC
  | .reg .d, .reg .d => .ldDD
  | .reg .d, .reg .e => .ldDE
  | .reg .d, .reg .h => .ldDH
  | .reg .d, .reg .l => .ldDL
  | .reg .d, .atHL => .ldDAtHL
  | .reg .d, .reg .a => .ldDA
  | .reg .e, .reg .b => .ldEB
  | .reg .e, .reg .c => .ldEC
  | .reg .e, .reg .d => .ldED
  | .reg .e, .reg .e => .ldEE
  | .reg .e, .reg .h => .ldEH
  | .reg .e, .reg .l => .ldEL
  | .reg .e, .atHL => .ldEAtHL
  | .reg .e, .reg .a => .ldEA
  | .reg .h, .reg .b => .ldHB
  | .reg .h, .reg .c => .ldHC
  | .reg .h, .reg .d => .ldHD
  | .reg .h, .reg .e => .ldHE
  | .reg .h, .reg .h => .ldHH
  | .reg .h, .reg .l => .ldHL
  | .reg .h, .atHL => .ldHAtHL
  | .reg .h, .reg .a => .ldHA
  | .reg .l, .reg .b => .ldLB
  | .reg .l, .reg .c => .ldLC
  | .reg .l, .reg .d => .ldLD
  | .reg .l, .reg .e => .ldLE
  | .reg .l, .reg .h => .ldLH
  | .reg .l, .reg .l => .ldLL
  | .reg .l, .atHL => .ldLAtHL
  | .reg .l, .reg .a => .ldLA
  | .atHL, .reg .b => .ldAtHLB
  | .atHL, .reg .c => .ldAtHLC
  | .atHL, .reg .d => .ldAtHLD
  | .atHL, .reg .e => .ldAtHLE
  | .atHL, .reg .h => .ldAtHLH
  | .atHL, .reg .l => .ldAtHLL
  | .atHL, .atHL => .halt
  | .atHL, .reg .a => .ldAtHLA
  | .reg .a, .reg .b => .ldAB
  | .reg .a, .reg .c => .ldAC
  | .reg .a, .reg .d => .ldAD
  | .reg .a, .reg .e => .ldAE
  | .reg .a, .reg .h => .ldAH
  | .reg .a, .reg .l => .ldAL
  | .reg .a, .atHL => .ldAAtHL
  | .reg .a, .reg .a => .ldAA

/-- `LD ddd,d8`. -/
def Row.ldImm (t : Operand8) (n8 : Byte) : Instr :=
  match t with
  | .reg .b => .ldBD8 n8
  | .reg .c => .ldCD8 n8
  | .reg .d => .ldDD8 n8
  | .reg .e => .ldED8 n8
  | .reg .h => .ldHD8 n8
  | .reg .l => .ldLD8 n8
  | .atHL => .ldAtHLD8 n8
  | .reg .a => .ldAD8 n8

/-- The ALU operation `ooo` on operand `sss` (0x80-0xBF). -/
def Row.alu : AluOp → Operand8 → Instr
  | .add, .reg .b => .addAB
  | .add, .reg .c => .addAC
  | .add, .reg .d => .addAD
  | .add, .reg .e => .addAE
  | .add, .reg .h => .addAH
  | .add, .reg .l => .addAL
  | .add, .atHL => .addAAtHL
  | .add, .reg .a => .addAA
  | .adc, .reg .b => .adcAB
  | .adc, .reg .c => .adcAC
  | .adc, .reg .d => .adcAD
  | .adc, .reg .e => .adcAE
  | .adc, .reg .h => .adcAH
  | .adc, .reg .l => .adcAL
  | .adc, .atHL => .adcAAtHL
  | .adc, .reg .a => .adcAA
  | .sub, .reg .b => .subB
  | .sub, .reg .c => .subC
  | .sub, .reg .d => .subD
  | .sub, .reg .e => .subE
  | .sub, .reg .h => .subH
  | .sub, .reg .l => .subL
  | .sub, .atHL => .subAtHL
  | .sub, .reg .a => .subA
  | .sbc, .reg .b => .sbcAB
  | .sbc, .reg .c => .sbcAC
  | .sbc, .reg .d => .sbcAD
  | .sbc, .reg .e => .sbcAE
  | .sbc, .reg .h => .sbcAH
  | .sbc, .reg .l => .sbcAL
  | .sbc, .atHL => .sbcAAtHL
  | .sbc, .reg .a => .sbcAA
  | .and, .reg .b => .andB
  | .and, .reg .c => .andC
  | .and, .reg .d => .andD
  | .and, .reg .e => .andE
  | .and, .reg .h => .andH
  | .and, .reg .l => .andL
  | .and, .atHL => .andAtHL
  | .and, .reg .a => .andA
  | .xor, .reg .b => .xorB
  | .xor, .reg .c => .xorC
  | .xor, .reg .d => .xorD
  | .xor, .reg .e => .xorE
  | .xor, .reg .h => .xorH
  | .xor, .reg .l => .xorL
  | .xor, .atHL => .xorAtHL
  | .xor, .reg .a => .xorA
  | .or, .reg .b => .orB
  | .or, .reg .c => .orC
  | .or, .reg .d => .orD
  | .or, .reg .e => .orE
  | .or, .reg .h => .orH
  | .or, .reg .l => .orL
  | .or, .atHL => .orAtHL
  | .or, .reg .a => .orA
  | .cp, .reg .b => .cpB
  | .cp, .reg .c => .cpC
  | .cp, .reg .d => .cpD
  | .cp, .reg .e => .cpE
  | .cp, .reg .h => .cpH
  | .cp, .reg .l => .cpL
  | .cp, .atHL => .cpAtHL
  | .cp, .reg .a => .cpA

/-- The ALU operation `ooo` on `d8`. -/
def Row.aluImm (t : AluOp) (n8 : Byte) : Instr :=
  match t with
  | .add => .addAD8 n8
  | .adc => .adcAD8 n8
  | .sub => .subD8 n8
  | .sbc => .sbcAD8 n8
  | .and => .andD8 n8
  | .xor => .xorD8 n8
  | .or => .orD8 n8
  | .cp => .cpD8 n8

/-- `INC ddd`. -/
def Row.inc : Operand8 → Instr
  | .reg .b => .incB
  | .reg .c => .incC
  | .reg .d => .incD
  | .reg .e => .incE
  | .reg .h => .incH
  | .reg .l => .incL
  | .atHL => .incAtHL
  | .reg .a => .incA

/-- `DEC ddd`. -/
def Row.dec : Operand8 → Instr
  | .reg .b => .decB
  | .reg .c => .decC
  | .reg .d => .decD
  | .reg .e => .decE
  | .reg .h => .decH
  | .reg .l => .decL
  | .atHL => .decAtHL
  | .reg .a => .decA

/-- CB 00-3F: the rotate or shift `ooo` on operand `rrr`. -/
def Row.shift : ShiftOp → Operand8 → Instr
  | .rlc, .reg .b => .rlcB
  | .rlc, .reg .c => .rlcC
  | .rlc, .reg .d => .rlcD
  | .rlc, .reg .e => .rlcE
  | .rlc, .reg .h => .rlcH
  | .rlc, .reg .l => .rlcL
  | .rlc, .atHL => .rlcAtHL
  | .rlc, .reg .a => .rlcA
  | .rrc, .reg .b => .rrcB
  | .rrc, .reg .c => .rrcC
  | .rrc, .reg .d => .rrcD
  | .rrc, .reg .e => .rrcE
  | .rrc, .reg .h => .rrcH
  | .rrc, .reg .l => .rrcL
  | .rrc, .atHL => .rrcAtHL
  | .rrc, .reg .a => .rrcA
  | .rl, .reg .b => .rlB
  | .rl, .reg .c => .rlC
  | .rl, .reg .d => .rlD
  | .rl, .reg .e => .rlE
  | .rl, .reg .h => .rlH
  | .rl, .reg .l => .rlL
  | .rl, .atHL => .rlAtHL
  | .rl, .reg .a => .rlA
  | .rr, .reg .b => .rrB
  | .rr, .reg .c => .rrC
  | .rr, .reg .d => .rrD
  | .rr, .reg .e => .rrE
  | .rr, .reg .h => .rrH
  | .rr, .reg .l => .rrL
  | .rr, .atHL => .rrAtHL
  | .rr, .reg .a => .rrA
  | .sla, .reg .b => .slaB
  | .sla, .reg .c => .slaC
  | .sla, .reg .d => .slaD
  | .sla, .reg .e => .slaE
  | .sla, .reg .h => .slaH
  | .sla, .reg .l => .slaL
  | .sla, .atHL => .slaAtHL
  | .sla, .reg .a => .slaA
  | .sra, .reg .b => .sraB
  | .sra, .reg .c => .sraC
  | .sra, .reg .d => .sraD
  | .sra, .reg .e => .sraE
  | .sra, .reg .h => .sraH
  | .sra, .reg .l => .sraL
  | .sra, .atHL => .sraAtHL
  | .sra, .reg .a => .sraA
  | .swap, .reg .b => .swapB
  | .swap, .reg .c => .swapC
  | .swap, .reg .d => .swapD
  | .swap, .reg .e => .swapE
  | .swap, .reg .h => .swapH
  | .swap, .reg .l => .swapL
  | .swap, .atHL => .swapAtHL
  | .swap, .reg .a => .swapA
  | .srl, .reg .b => .srlB
  | .srl, .reg .c => .srlC
  | .srl, .reg .d => .srlD
  | .srl, .reg .e => .srlE
  | .srl, .reg .h => .srlH
  | .srl, .reg .l => .srlL
  | .srl, .atHL => .srlAtHL
  | .srl, .reg .a => .srlA

/-- CB 40-7F: `BIT bbb,rrr`. -/
def Row.bit : Fin 8 → Operand8 → Instr
  | 0, .reg .b => .bit0B
  | 0, .reg .c => .bit0C
  | 0, .reg .d => .bit0D
  | 0, .reg .e => .bit0E
  | 0, .reg .h => .bit0H
  | 0, .reg .l => .bit0L
  | 0, .atHL => .bit0AtHL
  | 0, .reg .a => .bit0A
  | 1, .reg .b => .bit1B
  | 1, .reg .c => .bit1C
  | 1, .reg .d => .bit1D
  | 1, .reg .e => .bit1E
  | 1, .reg .h => .bit1H
  | 1, .reg .l => .bit1L
  | 1, .atHL => .bit1AtHL
  | 1, .reg .a => .bit1A
  | 2, .reg .b => .bit2B
  | 2, .reg .c => .bit2C
  | 2, .reg .d => .bit2D
  | 2, .reg .e => .bit2E
  | 2, .reg .h => .bit2H
  | 2, .reg .l => .bit2L
  | 2, .atHL => .bit2AtHL
  | 2, .reg .a => .bit2A
  | 3, .reg .b => .bit3B
  | 3, .reg .c => .bit3C
  | 3, .reg .d => .bit3D
  | 3, .reg .e => .bit3E
  | 3, .reg .h => .bit3H
  | 3, .reg .l => .bit3L
  | 3, .atHL => .bit3AtHL
  | 3, .reg .a => .bit3A
  | 4, .reg .b => .bit4B
  | 4, .reg .c => .bit4C
  | 4, .reg .d => .bit4D
  | 4, .reg .e => .bit4E
  | 4, .reg .h => .bit4H
  | 4, .reg .l => .bit4L
  | 4, .atHL => .bit4AtHL
  | 4, .reg .a => .bit4A
  | 5, .reg .b => .bit5B
  | 5, .reg .c => .bit5C
  | 5, .reg .d => .bit5D
  | 5, .reg .e => .bit5E
  | 5, .reg .h => .bit5H
  | 5, .reg .l => .bit5L
  | 5, .atHL => .bit5AtHL
  | 5, .reg .a => .bit5A
  | 6, .reg .b => .bit6B
  | 6, .reg .c => .bit6C
  | 6, .reg .d => .bit6D
  | 6, .reg .e => .bit6E
  | 6, .reg .h => .bit6H
  | 6, .reg .l => .bit6L
  | 6, .atHL => .bit6AtHL
  | 6, .reg .a => .bit6A
  | 7, .reg .b => .bit7B
  | 7, .reg .c => .bit7C
  | 7, .reg .d => .bit7D
  | 7, .reg .e => .bit7E
  | 7, .reg .h => .bit7H
  | 7, .reg .l => .bit7L
  | 7, .atHL => .bit7AtHL
  | 7, .reg .a => .bit7A

/-- CB 80-BF: `RES bbb,rrr`. -/
def Row.res : Fin 8 → Operand8 → Instr
  | 0, .reg .b => .res0B
  | 0, .reg .c => .res0C
  | 0, .reg .d => .res0D
  | 0, .reg .e => .res0E
  | 0, .reg .h => .res0H
  | 0, .reg .l => .res0L
  | 0, .atHL => .res0AtHL
  | 0, .reg .a => .res0A
  | 1, .reg .b => .res1B
  | 1, .reg .c => .res1C
  | 1, .reg .d => .res1D
  | 1, .reg .e => .res1E
  | 1, .reg .h => .res1H
  | 1, .reg .l => .res1L
  | 1, .atHL => .res1AtHL
  | 1, .reg .a => .res1A
  | 2, .reg .b => .res2B
  | 2, .reg .c => .res2C
  | 2, .reg .d => .res2D
  | 2, .reg .e => .res2E
  | 2, .reg .h => .res2H
  | 2, .reg .l => .res2L
  | 2, .atHL => .res2AtHL
  | 2, .reg .a => .res2A
  | 3, .reg .b => .res3B
  | 3, .reg .c => .res3C
  | 3, .reg .d => .res3D
  | 3, .reg .e => .res3E
  | 3, .reg .h => .res3H
  | 3, .reg .l => .res3L
  | 3, .atHL => .res3AtHL
  | 3, .reg .a => .res3A
  | 4, .reg .b => .res4B
  | 4, .reg .c => .res4C
  | 4, .reg .d => .res4D
  | 4, .reg .e => .res4E
  | 4, .reg .h => .res4H
  | 4, .reg .l => .res4L
  | 4, .atHL => .res4AtHL
  | 4, .reg .a => .res4A
  | 5, .reg .b => .res5B
  | 5, .reg .c => .res5C
  | 5, .reg .d => .res5D
  | 5, .reg .e => .res5E
  | 5, .reg .h => .res5H
  | 5, .reg .l => .res5L
  | 5, .atHL => .res5AtHL
  | 5, .reg .a => .res5A
  | 6, .reg .b => .res6B
  | 6, .reg .c => .res6C
  | 6, .reg .d => .res6D
  | 6, .reg .e => .res6E
  | 6, .reg .h => .res6H
  | 6, .reg .l => .res6L
  | 6, .atHL => .res6AtHL
  | 6, .reg .a => .res6A
  | 7, .reg .b => .res7B
  | 7, .reg .c => .res7C
  | 7, .reg .d => .res7D
  | 7, .reg .e => .res7E
  | 7, .reg .h => .res7H
  | 7, .reg .l => .res7L
  | 7, .atHL => .res7AtHL
  | 7, .reg .a => .res7A

/-- CB C0-FF: `SET bbb,rrr`. -/
def Row.set : Fin 8 → Operand8 → Instr
  | 0, .reg .b => .set0B
  | 0, .reg .c => .set0C
  | 0, .reg .d => .set0D
  | 0, .reg .e => .set0E
  | 0, .reg .h => .set0H
  | 0, .reg .l => .set0L
  | 0, .atHL => .set0AtHL
  | 0, .reg .a => .set0A
  | 1, .reg .b => .set1B
  | 1, .reg .c => .set1C
  | 1, .reg .d => .set1D
  | 1, .reg .e => .set1E
  | 1, .reg .h => .set1H
  | 1, .reg .l => .set1L
  | 1, .atHL => .set1AtHL
  | 1, .reg .a => .set1A
  | 2, .reg .b => .set2B
  | 2, .reg .c => .set2C
  | 2, .reg .d => .set2D
  | 2, .reg .e => .set2E
  | 2, .reg .h => .set2H
  | 2, .reg .l => .set2L
  | 2, .atHL => .set2AtHL
  | 2, .reg .a => .set2A
  | 3, .reg .b => .set3B
  | 3, .reg .c => .set3C
  | 3, .reg .d => .set3D
  | 3, .reg .e => .set3E
  | 3, .reg .h => .set3H
  | 3, .reg .l => .set3L
  | 3, .atHL => .set3AtHL
  | 3, .reg .a => .set3A
  | 4, .reg .b => .set4B
  | 4, .reg .c => .set4C
  | 4, .reg .d => .set4D
  | 4, .reg .e => .set4E
  | 4, .reg .h => .set4H
  | 4, .reg .l => .set4L
  | 4, .atHL => .set4AtHL
  | 4, .reg .a => .set4A
  | 5, .reg .b => .set5B
  | 5, .reg .c => .set5C
  | 5, .reg .d => .set5D
  | 5, .reg .e => .set5E
  | 5, .reg .h => .set5H
  | 5, .reg .l => .set5L
  | 5, .atHL => .set5AtHL
  | 5, .reg .a => .set5A
  | 6, .reg .b => .set6B
  | 6, .reg .c => .set6C
  | 6, .reg .d => .set6D
  | 6, .reg .e => .set6E
  | 6, .reg .h => .set6H
  | 6, .reg .l => .set6L
  | 6, .atHL => .set6AtHL
  | 6, .reg .a => .set6A
  | 7, .reg .b => .set7B
  | 7, .reg .c => .set7C
  | 7, .reg .d => .set7D
  | 7, .reg .e => .set7E
  | 7, .reg .h => .set7H
  | 7, .reg .l => .set7L
  | 7, .atHL => .set7AtHL
  | 7, .reg .a => .set7A

/-- `LD pp,d16`. -/
def Row.ldPair (t : RR) (m1 m2 : Byte) : Instr :=
  match t with
  | .bc => .ldBCD16 m1 m2
  | .de => .ldDED16 m1 m2
  | .hl => .ldHLD16 m1 m2
  | .sp => .ldSPD16 m1 m2

/-- `ADD HL,pp`. -/
def Row.addHL : RR → Instr
  | .bc => .addHLBC
  | .de => .addHLDE
  | .hl => .addHLHL
  | .sp => .addHLSP

/-- `INC pp`. -/
def Row.incPair : RR → Instr
  | .bc => .incBC
  | .de => .incDE
  | .hl => .incHL
  | .sp => .incSP

/-- `DEC pp`. -/
def Row.decPair : RR → Instr
  | .bc => .decBC
  | .de => .decDE
  | .hl => .decHL
  | .sp => .decSP

/-- `PUSH pp`. -/
def Row.push : QQ → Instr
  | .bc => .pushBC
  | .de => .pushDE
  | .hl => .pushHL
  | .af => .pushAF

/-- `POP pp`. -/
def Row.pop : QQ → Instr
  | .bc => .popBC
  | .de => .popDE
  | .hl => .popHL
  | .af => .popAF

/-- `JP cc,a16`. -/
def Row.jpIf (t : Cond) (m1 m2 : Byte) : Instr :=
  match t with
  | .nz => .jpNZA16 m1 m2
  | .z => .jpZA16 m1 m2
  | .nc => .jpNCA16 m1 m2
  | .c => .jpCA16 m1 m2

/-- `CALL cc,a16`. -/
def Row.callIf (t : Cond) (m1 m2 : Byte) : Instr :=
  match t with
  | .nz => .callNZA16 m1 m2
  | .z => .callZA16 m1 m2
  | .nc => .callNCA16 m1 m2
  | .c => .callCA16 m1 m2

/-- `JR cc,r8`. -/
def Row.jrIf (t : Cond) (n8 : Byte) : Instr :=
  match t with
  | .nz => .jrNZR8 n8
  | .z => .jrZR8 n8
  | .nc => .jrNCR8 n8
  | .c => .jrCR8 n8

/-- `RET cc`. -/
def Row.retIf : Cond → Instr
  | .nz => .retNZ
  | .z => .retZ
  | .nc => .retNC
  | .c => .retC

/-- `RST ttt`: the restart field times 8 is the target (rule R119). -/
def Row.rst : Fin 8 → Instr
  | 0 => .rst00
  | 1 => .rst08
  | 2 => .rst10
  | 3 => .rst18
  | 4 => .rst20
  | 5 => .rst28
  | 6 => .rst30
  | 7 => .rst38

/-- The eleven illegal opcodes (rule R126). -/
def Row.illegals : List Instr :=
  [.illegalD3, .illegalDB, .illegalDD, .illegalE3, .illegalE4, .illegalEB,
   .illegalEC, .illegalED, .illegalF4, .illegalFC, .illegalFD]

/-! ## Decoding -/

/-- What the first byte asks for: a whole instruction, one with immediate bytes to come, or the CB table. -/
inductive Opened where
  | whole (i : Instr)
  | imm8 (f : Byte → Instr)
  | imm16 (f : Byte → Byte → Instr)
  | cbTable

/-- Quadrant `x = 0` of rule R124, by `z` and then `y` or `p`, `q`. -/
def openX0 (op : Byte) : Opened :=
  match fieldZ op with
  | 0 =>
    match fieldY op with
    | 0 => .whole .nop
    | 1 => .imm16 .ldAtA16SP
    | 2 => .imm8 .stop
    | 3 => .imm8 .jrR8
    | y => .imm8 (Row.jrIf (.ofField (y - 4)))
  | 1 => if fieldQ op = 0 then .imm16 (Row.ldPair (.ofField (fieldP op))) else .whole (Row.addHL (.ofField (fieldP op)))
  | 2 =>
    match fieldY op with
    | 0 => .whole .ldAtBCA
    | 1 => .whole .ldAAtBC
    | 2 => .whole .ldAtDEA
    | 3 => .whole .ldAAtDE
    | 4 => .whole .ldAtHLIncA
    | 5 => .whole .ldAAtHLInc
    | 6 => .whole .ldAtHLDecA
    | _ => .whole .ldAAtHLDec
  | 3 => if fieldQ op = 0 then .whole (Row.incPair (.ofField (fieldP op))) else .whole (Row.decPair (.ofField (fieldP op)))
  | 4 => .whole (Row.inc (.ofField (fieldY op)))
  | 5 => .whole (Row.dec (.ofField (fieldY op)))
  | 6 => .imm8 (Row.ldImm (.ofField (fieldY op)))
  | _ =>
    match fieldY op with
    | 0 => .whole .rlca
    | 1 => .whole .rrca
    | 2 => .whole .rla
    | 3 => .whole .rra
    | 4 => .whole .daa
    | 5 => .whole .cpl
    | 6 => .whole .scf
    | _ => .whole .ccf

/-- Quadrant `x = 3` of rule R124. -/
def openX3 (op : Byte) : Opened :=
  match fieldZ op with
  | 0 =>
    match fieldY op with
    | 4 => .imm8 .ldhAtA8A
    | 5 => .imm8 .addSPR8
    | 6 => .imm8 .ldhAAtA8
    | 7 => .imm8 .ldHLSPR8
    | y => .whole (Row.retIf (.ofField y))
  | 1 =>
    match fieldQ op, fieldP op with
    | 0, p => .whole (Row.pop (.ofField p))
    | _, 0 => .whole .ret
    | _, 1 => .whole .reti
    | _, 2 => .whole .jpHL
    | _, _ => .whole .ldSPHL
  | 2 =>
    match fieldY op with
    | 4 => .whole .ldAtCA
    | 5 => .imm16 .ldAtA16A
    | 6 => .whole .ldAAtC
    | 7 => .imm16 .ldAAtA16
    | y => .imm16 (Row.jpIf (.ofField y))
  | 3 =>
    match fieldY op with
    | 0 => .imm16 .jpA16
    | 1 => .cbTable
    | 2 => .whole .illegalD3
    | 3 => .whole .illegalDB
    | 4 => .whole .illegalE3
    | 5 => .whole .illegalEB
    | 6 => .whole .di
    | _ => .whole .ei
  | 4 =>
    match fieldY op with
    | 4 => .whole .illegalE4
    | 5 => .whole .illegalEC
    | 6 => .whole .illegalF4
    | 7 => .whole .illegalFC
    | y => .imm16 (Row.callIf (.ofField y))
  | 5 =>
    match fieldQ op, fieldP op with
    | 0, p => .whole (Row.push (.ofField p))
    | _, 0 => .imm16 .callA16
    | _, 1 => .whole .illegalDD
    | _, 2 => .whole .illegalED
    | _, _ => .whole .illegalFD
  | 6 => .imm8 (Row.aluImm (.ofField (fieldY op)))
  | _ => .whole (Row.rst (bitOfField (fieldY op)))

/-- MAIN_TABLE of rule R111, by quadrant (rule R124). -/
def openOpcode (op : Byte) : Opened :=
  match fieldX op with
  | 0 => openX0 op
  | 1 => .whole (Row.ld (.ofField (fieldY op)) (.ofField (fieldZ op)))
  | 2 => .whole (Row.alu (.ofField (fieldY op)) (.ofField (fieldZ op)))
  | _ => openX3 op

/-- CB_TABLE of rule R111, by quadrant (rule R118). Every value is an instruction (rule R127). -/
def decodeCB (op : Byte) : Instr :=
  match fieldX op with
  | 0 => Row.shift (.ofField (fieldY op)) (.ofField (fieldZ op))
  | 1 => Row.bit (bitOfField (fieldY op)) (.ofField (fieldZ op))
  | 2 => Row.res (bitOfField (fieldY op)) (.ofField (fieldZ op))
  | _ => Row.set (bitOfField (fieldY op)) (.ofField (fieldZ op))

/-- Why bytes do not decode: a byte the instruction needs is not there. Nothing else is rejected, because every
value of the first byte and of the byte after 0xCB is some row (rules R126, R127). -/
inductive DecodeError where
  | noOpcodeByte
  | noCBByte
  | noImmediateByte
deriving DecidableEq, Repr

/-- Rule R111: the instruction at the head of the bytes, and the bytes after it. -/
def decode : List Byte → Except DecodeError (Instr × List Byte)
  | [] => .error .noOpcodeByte
  | b0 :: rest =>
    match openOpcode b0, rest with
    | .whole i, rest => .ok (i, rest)
    | .cbTable, [] => .error .noCBByte
    | .cbTable, b1 :: rest => .ok (decodeCB b1, rest)
    | .imm8 f, m1 :: rest => .ok (f m1, rest)
    | .imm16 f, m1 :: m2 :: rest => .ok (f m1 m2, rest)
    | .imm8 _, [] => .error .noImmediateByte
    | .imm16 _, [] => .error .noImmediateByte
    | .imm16 _, [_] => .error .noImmediateByte

/-- The length an opcode's first byte announces (rule R110). -/
def opcodeLength (b0 : Byte) : Nat :=
  match openOpcode b0 with
  | .whole _ => 1
  | .imm8 _ => 2
  | .imm16 _ => 3
  | .cbTable => 2

/-- What the host asks of the decoder: `w` holds the bytes with the first in bits 7..0, and every bit above
`nbits` is 0. Three bytes are the longest instruction (rule R110). -/
def decodeTableWord (nbits w : Nat) : Option Instr :=
  match decode [.ofNat 8 (w % 2 ^ nbits), .ofNat 8 (w % 2 ^ nbits / 2 ^ 8), .ofNat 8 (w % 2 ^ nbits / 2 ^ 16)] with
  | .ok (i, _) => some i
  | .error _ => none

/-! ## The opcode table and the encoder -/

/-- One flag's class in a row's descriptor (00_scope.md rule R17): `-`, `0`, `1`, or the letter itself. -/
inductive FlagClass where
  | unaffected
  | reset
  | set
  | computed
deriving DecidableEq, Repr

/-- A row's flag descriptor, in the order Z N H C (rule R17). -/
structure FlagDescriptor where
  z : FlagClass
  n : FlagClass
  h : FlagClass
  c : FlagClass
deriving DecidableEq, Repr

/-- An entry of the OpcodeSpec table (rule R125). -/
structure OpcodeSpec where
  value           : Byte
  isPrefixed      : Bool
  mnemonic        : String
  byteLength      : Nat
  baseCycles      : Nat
  notTakenCycles  : Nat
  flags           : FlagDescriptor
deriving DecidableEq, Repr

/-- The descriptor `----`. -/
def flagsKKKK : FlagDescriptor := ⟨.unaffected, .unaffected, .unaffected, .unaffected⟩

/-- The descriptor `-001`. -/
def flagsK001 : FlagDescriptor := ⟨.unaffected, .reset, .reset, .set⟩

/-- The descriptor `-00C`. -/
def flagsK00C : FlagDescriptor := ⟨.unaffected, .reset, .reset, .computed⟩

/-- The descriptor `-0HC`. -/
def flagsK0HC : FlagDescriptor := ⟨.unaffected, .reset, .computed, .computed⟩

/-- The descriptor `-11-`. -/
def flagsK11K : FlagDescriptor := ⟨.unaffected, .set, .set, .unaffected⟩

/-- The descriptor `000C`. -/
def flags000C : FlagDescriptor := ⟨.reset, .reset, .reset, .computed⟩

/-- The descriptor `00HC`. -/
def flags00HC : FlagDescriptor := ⟨.reset, .reset, .computed, .computed⟩

/-- The descriptor `Z-0C`. -/
def flagsZK0C : FlagDescriptor := ⟨.computed, .unaffected, .reset, .computed⟩

/-- The descriptor `Z000`. -/
def flagsZ000 : FlagDescriptor := ⟨.computed, .reset, .reset, .reset⟩

/-- The descriptor `Z00C`. -/
def flagsZ00C : FlagDescriptor := ⟨.computed, .reset, .reset, .computed⟩

/-- The descriptor `Z01-`. -/
def flagsZ01K : FlagDescriptor := ⟨.computed, .reset, .set, .unaffected⟩

/-- The descriptor `Z010`. -/
def flagsZ010 : FlagDescriptor := ⟨.computed, .reset, .set, .reset⟩

/-- The descriptor `Z0H-`. -/
def flagsZ0HK : FlagDescriptor := ⟨.computed, .reset, .computed, .unaffected⟩

/-- The descriptor `Z0HC`. -/
def flagsZ0HC : FlagDescriptor := ⟨.computed, .reset, .computed, .computed⟩

/-- The descriptor `Z1H-`. -/
def flagsZ1HK : FlagDescriptor := ⟨.computed, .set, .computed, .unaffected⟩

/-- The descriptor `Z1HC`. -/
def flagsZ1HC : FlagDescriptor := ⟨.computed, .set, .computed, .computed⟩

/-- The descriptor `ZNHC`. -/
def flagsZNHC : FlagDescriptor := ⟨.computed, .computed, .computed, .computed⟩

/-- A row of the unprefixed table: opcode, mnemonic, length, cycles, cycles when not taken, flags (rule R122). -/
def mainRow (v : Byte) (m : String) (len cyc nt : Nat) (fl : FlagDescriptor) : OpcodeSpec := ⟨v, false, m, len, cyc, nt, fl⟩

/-- A row of the CB table: second byte, mnemonic, cycles, flags (rule R123). -/
def cbRow (v : Byte) (m : String) (cyc : Nat) (fl : FlagDescriptor) : OpcodeSpec := ⟨v, true, m, 2, cyc, 0, fl⟩

/-- The opcode table: each instruction's row, from rules R122 and R123 and the rows' flag descriptors. -/
def Instr.spec : Instr → OpcodeSpec
  | .nop => mainRow 0x00#8 "NOP" 1 4 0 flagsKKKK
  | .ldBCD16 _ _ => mainRow 0x01#8 "LD BC,d16" 3 12 0 flagsKKKK
  | .ldAtBCA => mainRow 0x02#8 "LD (BC),A" 1 8 0 flagsKKKK
  | .incBC => mainRow 0x03#8 "INC BC" 1 8 0 flagsKKKK
  | .incB => mainRow 0x04#8 "INC B" 1 4 0 flagsZ0HK
  | .decB => mainRow 0x05#8 "DEC B" 1 4 0 flagsZ1HK
  | .ldBD8 _ => mainRow 0x06#8 "LD B,d8" 2 8 0 flagsKKKK
  | .rlca => mainRow 0x07#8 "RLCA" 1 4 0 flags000C
  | .ldAtA16SP _ _ => mainRow 0x08#8 "LD (a16),SP" 3 20 0 flagsKKKK
  | .addHLBC => mainRow 0x09#8 "ADD HL,BC" 1 8 0 flagsK0HC
  | .ldAAtBC => mainRow 0x0A#8 "LD A,(BC)" 1 8 0 flagsKKKK
  | .decBC => mainRow 0x0B#8 "DEC BC" 1 8 0 flagsKKKK
  | .incC => mainRow 0x0C#8 "INC C" 1 4 0 flagsZ0HK
  | .decC => mainRow 0x0D#8 "DEC C" 1 4 0 flagsZ1HK
  | .ldCD8 _ => mainRow 0x0E#8 "LD C,d8" 2 8 0 flagsKKKK
  | .rrca => mainRow 0x0F#8 "RRCA" 1 4 0 flags000C
  | .stop _ => mainRow 0x10#8 "STOP" 2 4 0 flagsKKKK
  | .ldDED16 _ _ => mainRow 0x11#8 "LD DE,d16" 3 12 0 flagsKKKK
  | .ldAtDEA => mainRow 0x12#8 "LD (DE),A" 1 8 0 flagsKKKK
  | .incDE => mainRow 0x13#8 "INC DE" 1 8 0 flagsKKKK
  | .incD => mainRow 0x14#8 "INC D" 1 4 0 flagsZ0HK
  | .decD => mainRow 0x15#8 "DEC D" 1 4 0 flagsZ1HK
  | .ldDD8 _ => mainRow 0x16#8 "LD D,d8" 2 8 0 flagsKKKK
  | .rla => mainRow 0x17#8 "RLA" 1 4 0 flags000C
  | .jrR8 _ => mainRow 0x18#8 "JR r8" 2 12 0 flagsKKKK
  | .addHLDE => mainRow 0x19#8 "ADD HL,DE" 1 8 0 flagsK0HC
  | .ldAAtDE => mainRow 0x1A#8 "LD A,(DE)" 1 8 0 flagsKKKK
  | .decDE => mainRow 0x1B#8 "DEC DE" 1 8 0 flagsKKKK
  | .incE => mainRow 0x1C#8 "INC E" 1 4 0 flagsZ0HK
  | .decE => mainRow 0x1D#8 "DEC E" 1 4 0 flagsZ1HK
  | .ldED8 _ => mainRow 0x1E#8 "LD E,d8" 2 8 0 flagsKKKK
  | .rra => mainRow 0x1F#8 "RRA" 1 4 0 flags000C
  | .jrNZR8 _ => mainRow 0x20#8 "JR NZ,r8" 2 12 8 flagsKKKK
  | .ldHLD16 _ _ => mainRow 0x21#8 "LD HL,d16" 3 12 0 flagsKKKK
  | .ldAtHLIncA => mainRow 0x22#8 "LD (HL+),A" 1 8 0 flagsKKKK
  | .incHL => mainRow 0x23#8 "INC HL" 1 8 0 flagsKKKK
  | .incH => mainRow 0x24#8 "INC H" 1 4 0 flagsZ0HK
  | .decH => mainRow 0x25#8 "DEC H" 1 4 0 flagsZ1HK
  | .ldHD8 _ => mainRow 0x26#8 "LD H,d8" 2 8 0 flagsKKKK
  | .daa => mainRow 0x27#8 "DAA" 1 4 0 flagsZK0C
  | .jrZR8 _ => mainRow 0x28#8 "JR Z,r8" 2 12 8 flagsKKKK
  | .addHLHL => mainRow 0x29#8 "ADD HL,HL" 1 8 0 flagsK0HC
  | .ldAAtHLInc => mainRow 0x2A#8 "LD A,(HL+)" 1 8 0 flagsKKKK
  | .decHL => mainRow 0x2B#8 "DEC HL" 1 8 0 flagsKKKK
  | .incL => mainRow 0x2C#8 "INC L" 1 4 0 flagsZ0HK
  | .decL => mainRow 0x2D#8 "DEC L" 1 4 0 flagsZ1HK
  | .ldLD8 _ => mainRow 0x2E#8 "LD L,d8" 2 8 0 flagsKKKK
  | .cpl => mainRow 0x2F#8 "CPL" 1 4 0 flagsK11K
  | .jrNCR8 _ => mainRow 0x30#8 "JR NC,r8" 2 12 8 flagsKKKK
  | .ldSPD16 _ _ => mainRow 0x31#8 "LD SP,d16" 3 12 0 flagsKKKK
  | .ldAtHLDecA => mainRow 0x32#8 "LD (HL-),A" 1 8 0 flagsKKKK
  | .incSP => mainRow 0x33#8 "INC SP" 1 8 0 flagsKKKK
  | .incAtHL => mainRow 0x34#8 "INC (HL)" 1 12 0 flagsZ0HK
  | .decAtHL => mainRow 0x35#8 "DEC (HL)" 1 12 0 flagsZ1HK
  | .ldAtHLD8 _ => mainRow 0x36#8 "LD (HL),d8" 2 12 0 flagsKKKK
  | .scf => mainRow 0x37#8 "SCF" 1 4 0 flagsK001
  | .jrCR8 _ => mainRow 0x38#8 "JR C,r8" 2 12 8 flagsKKKK
  | .addHLSP => mainRow 0x39#8 "ADD HL,SP" 1 8 0 flagsK0HC
  | .ldAAtHLDec => mainRow 0x3A#8 "LD A,(HL-)" 1 8 0 flagsKKKK
  | .decSP => mainRow 0x3B#8 "DEC SP" 1 8 0 flagsKKKK
  | .incA => mainRow 0x3C#8 "INC A" 1 4 0 flagsZ0HK
  | .decA => mainRow 0x3D#8 "DEC A" 1 4 0 flagsZ1HK
  | .ldAD8 _ => mainRow 0x3E#8 "LD A,d8" 2 8 0 flagsKKKK
  | .ccf => mainRow 0x3F#8 "CCF" 1 4 0 flagsK00C
  | .ldBB => mainRow 0x40#8 "LD B,B" 1 4 0 flagsKKKK
  | .ldBC => mainRow 0x41#8 "LD B,C" 1 4 0 flagsKKKK
  | .ldBD => mainRow 0x42#8 "LD B,D" 1 4 0 flagsKKKK
  | .ldBE => mainRow 0x43#8 "LD B,E" 1 4 0 flagsKKKK
  | .ldBH => mainRow 0x44#8 "LD B,H" 1 4 0 flagsKKKK
  | .ldBL => mainRow 0x45#8 "LD B,L" 1 4 0 flagsKKKK
  | .ldBAtHL => mainRow 0x46#8 "LD B,(HL)" 1 8 0 flagsKKKK
  | .ldBA => mainRow 0x47#8 "LD B,A" 1 4 0 flagsKKKK
  | .ldCB => mainRow 0x48#8 "LD C,B" 1 4 0 flagsKKKK
  | .ldCC => mainRow 0x49#8 "LD C,C" 1 4 0 flagsKKKK
  | .ldCD => mainRow 0x4A#8 "LD C,D" 1 4 0 flagsKKKK
  | .ldCE => mainRow 0x4B#8 "LD C,E" 1 4 0 flagsKKKK
  | .ldCH => mainRow 0x4C#8 "LD C,H" 1 4 0 flagsKKKK
  | .ldCL => mainRow 0x4D#8 "LD C,L" 1 4 0 flagsKKKK
  | .ldCAtHL => mainRow 0x4E#8 "LD C,(HL)" 1 8 0 flagsKKKK
  | .ldCA => mainRow 0x4F#8 "LD C,A" 1 4 0 flagsKKKK
  | .ldDB => mainRow 0x50#8 "LD D,B" 1 4 0 flagsKKKK
  | .ldDC => mainRow 0x51#8 "LD D,C" 1 4 0 flagsKKKK
  | .ldDD => mainRow 0x52#8 "LD D,D" 1 4 0 flagsKKKK
  | .ldDE => mainRow 0x53#8 "LD D,E" 1 4 0 flagsKKKK
  | .ldDH => mainRow 0x54#8 "LD D,H" 1 4 0 flagsKKKK
  | .ldDL => mainRow 0x55#8 "LD D,L" 1 4 0 flagsKKKK
  | .ldDAtHL => mainRow 0x56#8 "LD D,(HL)" 1 8 0 flagsKKKK
  | .ldDA => mainRow 0x57#8 "LD D,A" 1 4 0 flagsKKKK
  | .ldEB => mainRow 0x58#8 "LD E,B" 1 4 0 flagsKKKK
  | .ldEC => mainRow 0x59#8 "LD E,C" 1 4 0 flagsKKKK
  | .ldED => mainRow 0x5A#8 "LD E,D" 1 4 0 flagsKKKK
  | .ldEE => mainRow 0x5B#8 "LD E,E" 1 4 0 flagsKKKK
  | .ldEH => mainRow 0x5C#8 "LD E,H" 1 4 0 flagsKKKK
  | .ldEL => mainRow 0x5D#8 "LD E,L" 1 4 0 flagsKKKK
  | .ldEAtHL => mainRow 0x5E#8 "LD E,(HL)" 1 8 0 flagsKKKK
  | .ldEA => mainRow 0x5F#8 "LD E,A" 1 4 0 flagsKKKK
  | .ldHB => mainRow 0x60#8 "LD H,B" 1 4 0 flagsKKKK
  | .ldHC => mainRow 0x61#8 "LD H,C" 1 4 0 flagsKKKK
  | .ldHD => mainRow 0x62#8 "LD H,D" 1 4 0 flagsKKKK
  | .ldHE => mainRow 0x63#8 "LD H,E" 1 4 0 flagsKKKK
  | .ldHH => mainRow 0x64#8 "LD H,H" 1 4 0 flagsKKKK
  | .ldHL => mainRow 0x65#8 "LD H,L" 1 4 0 flagsKKKK
  | .ldHAtHL => mainRow 0x66#8 "LD H,(HL)" 1 8 0 flagsKKKK
  | .ldHA => mainRow 0x67#8 "LD H,A" 1 4 0 flagsKKKK
  | .ldLB => mainRow 0x68#8 "LD L,B" 1 4 0 flagsKKKK
  | .ldLC => mainRow 0x69#8 "LD L,C" 1 4 0 flagsKKKK
  | .ldLD => mainRow 0x6A#8 "LD L,D" 1 4 0 flagsKKKK
  | .ldLE => mainRow 0x6B#8 "LD L,E" 1 4 0 flagsKKKK
  | .ldLH => mainRow 0x6C#8 "LD L,H" 1 4 0 flagsKKKK
  | .ldLL => mainRow 0x6D#8 "LD L,L" 1 4 0 flagsKKKK
  | .ldLAtHL => mainRow 0x6E#8 "LD L,(HL)" 1 8 0 flagsKKKK
  | .ldLA => mainRow 0x6F#8 "LD L,A" 1 4 0 flagsKKKK
  | .ldAtHLB => mainRow 0x70#8 "LD (HL),B" 1 8 0 flagsKKKK
  | .ldAtHLC => mainRow 0x71#8 "LD (HL),C" 1 8 0 flagsKKKK
  | .ldAtHLD => mainRow 0x72#8 "LD (HL),D" 1 8 0 flagsKKKK
  | .ldAtHLE => mainRow 0x73#8 "LD (HL),E" 1 8 0 flagsKKKK
  | .ldAtHLH => mainRow 0x74#8 "LD (HL),H" 1 8 0 flagsKKKK
  | .ldAtHLL => mainRow 0x75#8 "LD (HL),L" 1 8 0 flagsKKKK
  | .halt => mainRow 0x76#8 "HALT" 1 4 0 flagsKKKK
  | .ldAtHLA => mainRow 0x77#8 "LD (HL),A" 1 8 0 flagsKKKK
  | .ldAB => mainRow 0x78#8 "LD A,B" 1 4 0 flagsKKKK
  | .ldAC => mainRow 0x79#8 "LD A,C" 1 4 0 flagsKKKK
  | .ldAD => mainRow 0x7A#8 "LD A,D" 1 4 0 flagsKKKK
  | .ldAE => mainRow 0x7B#8 "LD A,E" 1 4 0 flagsKKKK
  | .ldAH => mainRow 0x7C#8 "LD A,H" 1 4 0 flagsKKKK
  | .ldAL => mainRow 0x7D#8 "LD A,L" 1 4 0 flagsKKKK
  | .ldAAtHL => mainRow 0x7E#8 "LD A,(HL)" 1 8 0 flagsKKKK
  | .ldAA => mainRow 0x7F#8 "LD A,A" 1 4 0 flagsKKKK
  | .addAB => mainRow 0x80#8 "ADD A,B" 1 4 0 flagsZ0HC
  | .addAC => mainRow 0x81#8 "ADD A,C" 1 4 0 flagsZ0HC
  | .addAD => mainRow 0x82#8 "ADD A,D" 1 4 0 flagsZ0HC
  | .addAE => mainRow 0x83#8 "ADD A,E" 1 4 0 flagsZ0HC
  | .addAH => mainRow 0x84#8 "ADD A,H" 1 4 0 flagsZ0HC
  | .addAL => mainRow 0x85#8 "ADD A,L" 1 4 0 flagsZ0HC
  | .addAAtHL => mainRow 0x86#8 "ADD A,(HL)" 1 8 0 flagsZ0HC
  | .addAA => mainRow 0x87#8 "ADD A,A" 1 4 0 flagsZ0HC
  | .adcAB => mainRow 0x88#8 "ADC A,B" 1 4 0 flagsZ0HC
  | .adcAC => mainRow 0x89#8 "ADC A,C" 1 4 0 flagsZ0HC
  | .adcAD => mainRow 0x8A#8 "ADC A,D" 1 4 0 flagsZ0HC
  | .adcAE => mainRow 0x8B#8 "ADC A,E" 1 4 0 flagsZ0HC
  | .adcAH => mainRow 0x8C#8 "ADC A,H" 1 4 0 flagsZ0HC
  | .adcAL => mainRow 0x8D#8 "ADC A,L" 1 4 0 flagsZ0HC
  | .adcAAtHL => mainRow 0x8E#8 "ADC A,(HL)" 1 8 0 flagsZ0HC
  | .adcAA => mainRow 0x8F#8 "ADC A,A" 1 4 0 flagsZ0HC
  | .subB => mainRow 0x90#8 "SUB B" 1 4 0 flagsZ1HC
  | .subC => mainRow 0x91#8 "SUB C" 1 4 0 flagsZ1HC
  | .subD => mainRow 0x92#8 "SUB D" 1 4 0 flagsZ1HC
  | .subE => mainRow 0x93#8 "SUB E" 1 4 0 flagsZ1HC
  | .subH => mainRow 0x94#8 "SUB H" 1 4 0 flagsZ1HC
  | .subL => mainRow 0x95#8 "SUB L" 1 4 0 flagsZ1HC
  | .subAtHL => mainRow 0x96#8 "SUB (HL)" 1 8 0 flagsZ1HC
  | .subA => mainRow 0x97#8 "SUB A" 1 4 0 flagsZ1HC
  | .sbcAB => mainRow 0x98#8 "SBC A,B" 1 4 0 flagsZ1HC
  | .sbcAC => mainRow 0x99#8 "SBC A,C" 1 4 0 flagsZ1HC
  | .sbcAD => mainRow 0x9A#8 "SBC A,D" 1 4 0 flagsZ1HC
  | .sbcAE => mainRow 0x9B#8 "SBC A,E" 1 4 0 flagsZ1HC
  | .sbcAH => mainRow 0x9C#8 "SBC A,H" 1 4 0 flagsZ1HC
  | .sbcAL => mainRow 0x9D#8 "SBC A,L" 1 4 0 flagsZ1HC
  | .sbcAAtHL => mainRow 0x9E#8 "SBC A,(HL)" 1 8 0 flagsZ1HC
  | .sbcAA => mainRow 0x9F#8 "SBC A,A" 1 4 0 flagsZ1HC
  | .andB => mainRow 0xA0#8 "AND B" 1 4 0 flagsZ010
  | .andC => mainRow 0xA1#8 "AND C" 1 4 0 flagsZ010
  | .andD => mainRow 0xA2#8 "AND D" 1 4 0 flagsZ010
  | .andE => mainRow 0xA3#8 "AND E" 1 4 0 flagsZ010
  | .andH => mainRow 0xA4#8 "AND H" 1 4 0 flagsZ010
  | .andL => mainRow 0xA5#8 "AND L" 1 4 0 flagsZ010
  | .andAtHL => mainRow 0xA6#8 "AND (HL)" 1 8 0 flagsZ010
  | .andA => mainRow 0xA7#8 "AND A" 1 4 0 flagsZ010
  | .xorB => mainRow 0xA8#8 "XOR B" 1 4 0 flagsZ000
  | .xorC => mainRow 0xA9#8 "XOR C" 1 4 0 flagsZ000
  | .xorD => mainRow 0xAA#8 "XOR D" 1 4 0 flagsZ000
  | .xorE => mainRow 0xAB#8 "XOR E" 1 4 0 flagsZ000
  | .xorH => mainRow 0xAC#8 "XOR H" 1 4 0 flagsZ000
  | .xorL => mainRow 0xAD#8 "XOR L" 1 4 0 flagsZ000
  | .xorAtHL => mainRow 0xAE#8 "XOR (HL)" 1 8 0 flagsZ000
  | .xorA => mainRow 0xAF#8 "XOR A" 1 4 0 flagsZ000
  | .orB => mainRow 0xB0#8 "OR B" 1 4 0 flagsZ000
  | .orC => mainRow 0xB1#8 "OR C" 1 4 0 flagsZ000
  | .orD => mainRow 0xB2#8 "OR D" 1 4 0 flagsZ000
  | .orE => mainRow 0xB3#8 "OR E" 1 4 0 flagsZ000
  | .orH => mainRow 0xB4#8 "OR H" 1 4 0 flagsZ000
  | .orL => mainRow 0xB5#8 "OR L" 1 4 0 flagsZ000
  | .orAtHL => mainRow 0xB6#8 "OR (HL)" 1 8 0 flagsZ000
  | .orA => mainRow 0xB7#8 "OR A" 1 4 0 flagsZ000
  | .cpB => mainRow 0xB8#8 "CP B" 1 4 0 flagsZ1HC
  | .cpC => mainRow 0xB9#8 "CP C" 1 4 0 flagsZ1HC
  | .cpD => mainRow 0xBA#8 "CP D" 1 4 0 flagsZ1HC
  | .cpE => mainRow 0xBB#8 "CP E" 1 4 0 flagsZ1HC
  | .cpH => mainRow 0xBC#8 "CP H" 1 4 0 flagsZ1HC
  | .cpL => mainRow 0xBD#8 "CP L" 1 4 0 flagsZ1HC
  | .cpAtHL => mainRow 0xBE#8 "CP (HL)" 1 8 0 flagsZ1HC
  | .cpA => mainRow 0xBF#8 "CP A" 1 4 0 flagsZ1HC
  | .retNZ => mainRow 0xC0#8 "RET NZ" 1 20 8 flagsKKKK
  | .popBC => mainRow 0xC1#8 "POP BC" 1 12 0 flagsKKKK
  | .jpNZA16 _ _ => mainRow 0xC2#8 "JP NZ,a16" 3 16 12 flagsKKKK
  | .jpA16 _ _ => mainRow 0xC3#8 "JP a16" 3 16 0 flagsKKKK
  | .callNZA16 _ _ => mainRow 0xC4#8 "CALL NZ,a16" 3 24 12 flagsKKKK
  | .pushBC => mainRow 0xC5#8 "PUSH BC" 1 16 0 flagsKKKK
  | .addAD8 _ => mainRow 0xC6#8 "ADD A,d8" 2 8 0 flagsZ0HC
  | .rst00 => mainRow 0xC7#8 "RST 00H" 1 16 0 flagsKKKK
  | .retZ => mainRow 0xC8#8 "RET Z" 1 20 8 flagsKKKK
  | .ret => mainRow 0xC9#8 "RET" 1 16 0 flagsKKKK
  | .jpZA16 _ _ => mainRow 0xCA#8 "JP Z,a16" 3 16 12 flagsKKKK
  | .prefixCB _ => mainRow 0xCB#8 "PREFIX CB" 1 0 0 flagsKKKK
  | .callZA16 _ _ => mainRow 0xCC#8 "CALL Z,a16" 3 24 12 flagsKKKK
  | .callA16 _ _ => mainRow 0xCD#8 "CALL a16" 3 24 0 flagsKKKK
  | .adcAD8 _ => mainRow 0xCE#8 "ADC A,d8" 2 8 0 flagsZ0HC
  | .rst08 => mainRow 0xCF#8 "RST 08H" 1 16 0 flagsKKKK
  | .retNC => mainRow 0xD0#8 "RET NC" 1 20 8 flagsKKKK
  | .popDE => mainRow 0xD1#8 "POP DE" 1 12 0 flagsKKKK
  | .jpNCA16 _ _ => mainRow 0xD2#8 "JP NC,a16" 3 16 12 flagsKKKK
  | .illegalD3 => mainRow 0xD3#8 "ILLEGAL D3" 1 0 0 flagsKKKK
  | .callNCA16 _ _ => mainRow 0xD4#8 "CALL NC,a16" 3 24 12 flagsKKKK
  | .pushDE => mainRow 0xD5#8 "PUSH DE" 1 16 0 flagsKKKK
  | .subD8 _ => mainRow 0xD6#8 "SUB d8" 2 8 0 flagsZ1HC
  | .rst10 => mainRow 0xD7#8 "RST 10H" 1 16 0 flagsKKKK
  | .retC => mainRow 0xD8#8 "RET C" 1 20 8 flagsKKKK
  | .reti => mainRow 0xD9#8 "RETI" 1 16 0 flagsKKKK
  | .jpCA16 _ _ => mainRow 0xDA#8 "JP C,a16" 3 16 12 flagsKKKK
  | .illegalDB => mainRow 0xDB#8 "ILLEGAL DB" 1 0 0 flagsKKKK
  | .callCA16 _ _ => mainRow 0xDC#8 "CALL C,a16" 3 24 12 flagsKKKK
  | .illegalDD => mainRow 0xDD#8 "ILLEGAL DD" 1 0 0 flagsKKKK
  | .sbcAD8 _ => mainRow 0xDE#8 "SBC A,d8" 2 8 0 flagsZ1HC
  | .rst18 => mainRow 0xDF#8 "RST 18H" 1 16 0 flagsKKKK
  | .ldhAtA8A _ => mainRow 0xE0#8 "LDH (a8),A" 2 12 0 flagsKKKK
  | .popHL => mainRow 0xE1#8 "POP HL" 1 12 0 flagsKKKK
  | .ldAtCA => mainRow 0xE2#8 "LD (C),A" 1 8 0 flagsKKKK
  | .illegalE3 => mainRow 0xE3#8 "ILLEGAL E3" 1 0 0 flagsKKKK
  | .illegalE4 => mainRow 0xE4#8 "ILLEGAL E4" 1 0 0 flagsKKKK
  | .pushHL => mainRow 0xE5#8 "PUSH HL" 1 16 0 flagsKKKK
  | .andD8 _ => mainRow 0xE6#8 "AND d8" 2 8 0 flagsZ010
  | .rst20 => mainRow 0xE7#8 "RST 20H" 1 16 0 flagsKKKK
  | .addSPR8 _ => mainRow 0xE8#8 "ADD SP,r8" 2 16 0 flags00HC
  | .jpHL => mainRow 0xE9#8 "JP HL" 1 4 0 flagsKKKK
  | .ldAtA16A _ _ => mainRow 0xEA#8 "LD (a16),A" 3 16 0 flagsKKKK
  | .illegalEB => mainRow 0xEB#8 "ILLEGAL EB" 1 0 0 flagsKKKK
  | .illegalEC => mainRow 0xEC#8 "ILLEGAL EC" 1 0 0 flagsKKKK
  | .illegalED => mainRow 0xED#8 "ILLEGAL ED" 1 0 0 flagsKKKK
  | .xorD8 _ => mainRow 0xEE#8 "XOR d8" 2 8 0 flagsZ000
  | .rst28 => mainRow 0xEF#8 "RST 28H" 1 16 0 flagsKKKK
  | .ldhAAtA8 _ => mainRow 0xF0#8 "LDH A,(a8)" 2 12 0 flagsKKKK
  | .popAF => mainRow 0xF1#8 "POP AF" 1 12 0 flagsZNHC
  | .ldAAtC => mainRow 0xF2#8 "LD A,(C)" 1 8 0 flagsKKKK
  | .di => mainRow 0xF3#8 "DI" 1 4 0 flagsKKKK
  | .illegalF4 => mainRow 0xF4#8 "ILLEGAL F4" 1 0 0 flagsKKKK
  | .pushAF => mainRow 0xF5#8 "PUSH AF" 1 16 0 flagsKKKK
  | .orD8 _ => mainRow 0xF6#8 "OR d8" 2 8 0 flagsZ000
  | .rst30 => mainRow 0xF7#8 "RST 30H" 1 16 0 flagsKKKK
  | .ldHLSPR8 _ => mainRow 0xF8#8 "LD HL,SP+r8" 2 12 0 flags00HC
  | .ldSPHL => mainRow 0xF9#8 "LD SP,HL" 1 8 0 flagsKKKK
  | .ldAAtA16 _ _ => mainRow 0xFA#8 "LD A,(a16)" 3 16 0 flagsKKKK
  | .ei => mainRow 0xFB#8 "EI" 1 4 0 flagsKKKK
  | .illegalFC => mainRow 0xFC#8 "ILLEGAL FC" 1 0 0 flagsKKKK
  | .illegalFD => mainRow 0xFD#8 "ILLEGAL FD" 1 0 0 flagsKKKK
  | .cpD8 _ => mainRow 0xFE#8 "CP d8" 2 8 0 flagsZ1HC
  | .rst38 => mainRow 0xFF#8 "RST 38H" 1 16 0 flagsKKKK
  | .rlcB => cbRow 0x00#8 "RLC B" 8 flagsZ00C
  | .rlcC => cbRow 0x01#8 "RLC C" 8 flagsZ00C
  | .rlcD => cbRow 0x02#8 "RLC D" 8 flagsZ00C
  | .rlcE => cbRow 0x03#8 "RLC E" 8 flagsZ00C
  | .rlcH => cbRow 0x04#8 "RLC H" 8 flagsZ00C
  | .rlcL => cbRow 0x05#8 "RLC L" 8 flagsZ00C
  | .rlcAtHL => cbRow 0x06#8 "RLC (HL)" 16 flagsZ00C
  | .rlcA => cbRow 0x07#8 "RLC A" 8 flagsZ00C
  | .rrcB => cbRow 0x08#8 "RRC B" 8 flagsZ00C
  | .rrcC => cbRow 0x09#8 "RRC C" 8 flagsZ00C
  | .rrcD => cbRow 0x0A#8 "RRC D" 8 flagsZ00C
  | .rrcE => cbRow 0x0B#8 "RRC E" 8 flagsZ00C
  | .rrcH => cbRow 0x0C#8 "RRC H" 8 flagsZ00C
  | .rrcL => cbRow 0x0D#8 "RRC L" 8 flagsZ00C
  | .rrcAtHL => cbRow 0x0E#8 "RRC (HL)" 16 flagsZ00C
  | .rrcA => cbRow 0x0F#8 "RRC A" 8 flagsZ00C
  | .rlB => cbRow 0x10#8 "RL B" 8 flagsZ00C
  | .rlC => cbRow 0x11#8 "RL C" 8 flagsZ00C
  | .rlD => cbRow 0x12#8 "RL D" 8 flagsZ00C
  | .rlE => cbRow 0x13#8 "RL E" 8 flagsZ00C
  | .rlH => cbRow 0x14#8 "RL H" 8 flagsZ00C
  | .rlL => cbRow 0x15#8 "RL L" 8 flagsZ00C
  | .rlAtHL => cbRow 0x16#8 "RL (HL)" 16 flagsZ00C
  | .rlA => cbRow 0x17#8 "RL A" 8 flagsZ00C
  | .rrB => cbRow 0x18#8 "RR B" 8 flagsZ00C
  | .rrC => cbRow 0x19#8 "RR C" 8 flagsZ00C
  | .rrD => cbRow 0x1A#8 "RR D" 8 flagsZ00C
  | .rrE => cbRow 0x1B#8 "RR E" 8 flagsZ00C
  | .rrH => cbRow 0x1C#8 "RR H" 8 flagsZ00C
  | .rrL => cbRow 0x1D#8 "RR L" 8 flagsZ00C
  | .rrAtHL => cbRow 0x1E#8 "RR (HL)" 16 flagsZ00C
  | .rrA => cbRow 0x1F#8 "RR A" 8 flagsZ00C
  | .slaB => cbRow 0x20#8 "SLA B" 8 flagsZ00C
  | .slaC => cbRow 0x21#8 "SLA C" 8 flagsZ00C
  | .slaD => cbRow 0x22#8 "SLA D" 8 flagsZ00C
  | .slaE => cbRow 0x23#8 "SLA E" 8 flagsZ00C
  | .slaH => cbRow 0x24#8 "SLA H" 8 flagsZ00C
  | .slaL => cbRow 0x25#8 "SLA L" 8 flagsZ00C
  | .slaAtHL => cbRow 0x26#8 "SLA (HL)" 16 flagsZ00C
  | .slaA => cbRow 0x27#8 "SLA A" 8 flagsZ00C
  | .sraB => cbRow 0x28#8 "SRA B" 8 flagsZ00C
  | .sraC => cbRow 0x29#8 "SRA C" 8 flagsZ00C
  | .sraD => cbRow 0x2A#8 "SRA D" 8 flagsZ00C
  | .sraE => cbRow 0x2B#8 "SRA E" 8 flagsZ00C
  | .sraH => cbRow 0x2C#8 "SRA H" 8 flagsZ00C
  | .sraL => cbRow 0x2D#8 "SRA L" 8 flagsZ00C
  | .sraAtHL => cbRow 0x2E#8 "SRA (HL)" 16 flagsZ00C
  | .sraA => cbRow 0x2F#8 "SRA A" 8 flagsZ00C
  | .swapB => cbRow 0x30#8 "SWAP B" 8 flagsZ000
  | .swapC => cbRow 0x31#8 "SWAP C" 8 flagsZ000
  | .swapD => cbRow 0x32#8 "SWAP D" 8 flagsZ000
  | .swapE => cbRow 0x33#8 "SWAP E" 8 flagsZ000
  | .swapH => cbRow 0x34#8 "SWAP H" 8 flagsZ000
  | .swapL => cbRow 0x35#8 "SWAP L" 8 flagsZ000
  | .swapAtHL => cbRow 0x36#8 "SWAP (HL)" 16 flagsZ000
  | .swapA => cbRow 0x37#8 "SWAP A" 8 flagsZ000
  | .srlB => cbRow 0x38#8 "SRL B" 8 flagsZ00C
  | .srlC => cbRow 0x39#8 "SRL C" 8 flagsZ00C
  | .srlD => cbRow 0x3A#8 "SRL D" 8 flagsZ00C
  | .srlE => cbRow 0x3B#8 "SRL E" 8 flagsZ00C
  | .srlH => cbRow 0x3C#8 "SRL H" 8 flagsZ00C
  | .srlL => cbRow 0x3D#8 "SRL L" 8 flagsZ00C
  | .srlAtHL => cbRow 0x3E#8 "SRL (HL)" 16 flagsZ00C
  | .srlA => cbRow 0x3F#8 "SRL A" 8 flagsZ00C
  | .bit0B => cbRow 0x40#8 "BIT 0,B" 8 flagsZ01K
  | .bit0C => cbRow 0x41#8 "BIT 0,C" 8 flagsZ01K
  | .bit0D => cbRow 0x42#8 "BIT 0,D" 8 flagsZ01K
  | .bit0E => cbRow 0x43#8 "BIT 0,E" 8 flagsZ01K
  | .bit0H => cbRow 0x44#8 "BIT 0,H" 8 flagsZ01K
  | .bit0L => cbRow 0x45#8 "BIT 0,L" 8 flagsZ01K
  | .bit0AtHL => cbRow 0x46#8 "BIT 0,(HL)" 12 flagsZ01K
  | .bit0A => cbRow 0x47#8 "BIT 0,A" 8 flagsZ01K
  | .bit1B => cbRow 0x48#8 "BIT 1,B" 8 flagsZ01K
  | .bit1C => cbRow 0x49#8 "BIT 1,C" 8 flagsZ01K
  | .bit1D => cbRow 0x4A#8 "BIT 1,D" 8 flagsZ01K
  | .bit1E => cbRow 0x4B#8 "BIT 1,E" 8 flagsZ01K
  | .bit1H => cbRow 0x4C#8 "BIT 1,H" 8 flagsZ01K
  | .bit1L => cbRow 0x4D#8 "BIT 1,L" 8 flagsZ01K
  | .bit1AtHL => cbRow 0x4E#8 "BIT 1,(HL)" 12 flagsZ01K
  | .bit1A => cbRow 0x4F#8 "BIT 1,A" 8 flagsZ01K
  | .bit2B => cbRow 0x50#8 "BIT 2,B" 8 flagsZ01K
  | .bit2C => cbRow 0x51#8 "BIT 2,C" 8 flagsZ01K
  | .bit2D => cbRow 0x52#8 "BIT 2,D" 8 flagsZ01K
  | .bit2E => cbRow 0x53#8 "BIT 2,E" 8 flagsZ01K
  | .bit2H => cbRow 0x54#8 "BIT 2,H" 8 flagsZ01K
  | .bit2L => cbRow 0x55#8 "BIT 2,L" 8 flagsZ01K
  | .bit2AtHL => cbRow 0x56#8 "BIT 2,(HL)" 12 flagsZ01K
  | .bit2A => cbRow 0x57#8 "BIT 2,A" 8 flagsZ01K
  | .bit3B => cbRow 0x58#8 "BIT 3,B" 8 flagsZ01K
  | .bit3C => cbRow 0x59#8 "BIT 3,C" 8 flagsZ01K
  | .bit3D => cbRow 0x5A#8 "BIT 3,D" 8 flagsZ01K
  | .bit3E => cbRow 0x5B#8 "BIT 3,E" 8 flagsZ01K
  | .bit3H => cbRow 0x5C#8 "BIT 3,H" 8 flagsZ01K
  | .bit3L => cbRow 0x5D#8 "BIT 3,L" 8 flagsZ01K
  | .bit3AtHL => cbRow 0x5E#8 "BIT 3,(HL)" 12 flagsZ01K
  | .bit3A => cbRow 0x5F#8 "BIT 3,A" 8 flagsZ01K
  | .bit4B => cbRow 0x60#8 "BIT 4,B" 8 flagsZ01K
  | .bit4C => cbRow 0x61#8 "BIT 4,C" 8 flagsZ01K
  | .bit4D => cbRow 0x62#8 "BIT 4,D" 8 flagsZ01K
  | .bit4E => cbRow 0x63#8 "BIT 4,E" 8 flagsZ01K
  | .bit4H => cbRow 0x64#8 "BIT 4,H" 8 flagsZ01K
  | .bit4L => cbRow 0x65#8 "BIT 4,L" 8 flagsZ01K
  | .bit4AtHL => cbRow 0x66#8 "BIT 4,(HL)" 12 flagsZ01K
  | .bit4A => cbRow 0x67#8 "BIT 4,A" 8 flagsZ01K
  | .bit5B => cbRow 0x68#8 "BIT 5,B" 8 flagsZ01K
  | .bit5C => cbRow 0x69#8 "BIT 5,C" 8 flagsZ01K
  | .bit5D => cbRow 0x6A#8 "BIT 5,D" 8 flagsZ01K
  | .bit5E => cbRow 0x6B#8 "BIT 5,E" 8 flagsZ01K
  | .bit5H => cbRow 0x6C#8 "BIT 5,H" 8 flagsZ01K
  | .bit5L => cbRow 0x6D#8 "BIT 5,L" 8 flagsZ01K
  | .bit5AtHL => cbRow 0x6E#8 "BIT 5,(HL)" 12 flagsZ01K
  | .bit5A => cbRow 0x6F#8 "BIT 5,A" 8 flagsZ01K
  | .bit6B => cbRow 0x70#8 "BIT 6,B" 8 flagsZ01K
  | .bit6C => cbRow 0x71#8 "BIT 6,C" 8 flagsZ01K
  | .bit6D => cbRow 0x72#8 "BIT 6,D" 8 flagsZ01K
  | .bit6E => cbRow 0x73#8 "BIT 6,E" 8 flagsZ01K
  | .bit6H => cbRow 0x74#8 "BIT 6,H" 8 flagsZ01K
  | .bit6L => cbRow 0x75#8 "BIT 6,L" 8 flagsZ01K
  | .bit6AtHL => cbRow 0x76#8 "BIT 6,(HL)" 12 flagsZ01K
  | .bit6A => cbRow 0x77#8 "BIT 6,A" 8 flagsZ01K
  | .bit7B => cbRow 0x78#8 "BIT 7,B" 8 flagsZ01K
  | .bit7C => cbRow 0x79#8 "BIT 7,C" 8 flagsZ01K
  | .bit7D => cbRow 0x7A#8 "BIT 7,D" 8 flagsZ01K
  | .bit7E => cbRow 0x7B#8 "BIT 7,E" 8 flagsZ01K
  | .bit7H => cbRow 0x7C#8 "BIT 7,H" 8 flagsZ01K
  | .bit7L => cbRow 0x7D#8 "BIT 7,L" 8 flagsZ01K
  | .bit7AtHL => cbRow 0x7E#8 "BIT 7,(HL)" 12 flagsZ01K
  | .bit7A => cbRow 0x7F#8 "BIT 7,A" 8 flagsZ01K
  | .res0B => cbRow 0x80#8 "RES 0,B" 8 flagsKKKK
  | .res0C => cbRow 0x81#8 "RES 0,C" 8 flagsKKKK
  | .res0D => cbRow 0x82#8 "RES 0,D" 8 flagsKKKK
  | .res0E => cbRow 0x83#8 "RES 0,E" 8 flagsKKKK
  | .res0H => cbRow 0x84#8 "RES 0,H" 8 flagsKKKK
  | .res0L => cbRow 0x85#8 "RES 0,L" 8 flagsKKKK
  | .res0AtHL => cbRow 0x86#8 "RES 0,(HL)" 16 flagsKKKK
  | .res0A => cbRow 0x87#8 "RES 0,A" 8 flagsKKKK
  | .res1B => cbRow 0x88#8 "RES 1,B" 8 flagsKKKK
  | .res1C => cbRow 0x89#8 "RES 1,C" 8 flagsKKKK
  | .res1D => cbRow 0x8A#8 "RES 1,D" 8 flagsKKKK
  | .res1E => cbRow 0x8B#8 "RES 1,E" 8 flagsKKKK
  | .res1H => cbRow 0x8C#8 "RES 1,H" 8 flagsKKKK
  | .res1L => cbRow 0x8D#8 "RES 1,L" 8 flagsKKKK
  | .res1AtHL => cbRow 0x8E#8 "RES 1,(HL)" 16 flagsKKKK
  | .res1A => cbRow 0x8F#8 "RES 1,A" 8 flagsKKKK
  | .res2B => cbRow 0x90#8 "RES 2,B" 8 flagsKKKK
  | .res2C => cbRow 0x91#8 "RES 2,C" 8 flagsKKKK
  | .res2D => cbRow 0x92#8 "RES 2,D" 8 flagsKKKK
  | .res2E => cbRow 0x93#8 "RES 2,E" 8 flagsKKKK
  | .res2H => cbRow 0x94#8 "RES 2,H" 8 flagsKKKK
  | .res2L => cbRow 0x95#8 "RES 2,L" 8 flagsKKKK
  | .res2AtHL => cbRow 0x96#8 "RES 2,(HL)" 16 flagsKKKK
  | .res2A => cbRow 0x97#8 "RES 2,A" 8 flagsKKKK
  | .res3B => cbRow 0x98#8 "RES 3,B" 8 flagsKKKK
  | .res3C => cbRow 0x99#8 "RES 3,C" 8 flagsKKKK
  | .res3D => cbRow 0x9A#8 "RES 3,D" 8 flagsKKKK
  | .res3E => cbRow 0x9B#8 "RES 3,E" 8 flagsKKKK
  | .res3H => cbRow 0x9C#8 "RES 3,H" 8 flagsKKKK
  | .res3L => cbRow 0x9D#8 "RES 3,L" 8 flagsKKKK
  | .res3AtHL => cbRow 0x9E#8 "RES 3,(HL)" 16 flagsKKKK
  | .res3A => cbRow 0x9F#8 "RES 3,A" 8 flagsKKKK
  | .res4B => cbRow 0xA0#8 "RES 4,B" 8 flagsKKKK
  | .res4C => cbRow 0xA1#8 "RES 4,C" 8 flagsKKKK
  | .res4D => cbRow 0xA2#8 "RES 4,D" 8 flagsKKKK
  | .res4E => cbRow 0xA3#8 "RES 4,E" 8 flagsKKKK
  | .res4H => cbRow 0xA4#8 "RES 4,H" 8 flagsKKKK
  | .res4L => cbRow 0xA5#8 "RES 4,L" 8 flagsKKKK
  | .res4AtHL => cbRow 0xA6#8 "RES 4,(HL)" 16 flagsKKKK
  | .res4A => cbRow 0xA7#8 "RES 4,A" 8 flagsKKKK
  | .res5B => cbRow 0xA8#8 "RES 5,B" 8 flagsKKKK
  | .res5C => cbRow 0xA9#8 "RES 5,C" 8 flagsKKKK
  | .res5D => cbRow 0xAA#8 "RES 5,D" 8 flagsKKKK
  | .res5E => cbRow 0xAB#8 "RES 5,E" 8 flagsKKKK
  | .res5H => cbRow 0xAC#8 "RES 5,H" 8 flagsKKKK
  | .res5L => cbRow 0xAD#8 "RES 5,L" 8 flagsKKKK
  | .res5AtHL => cbRow 0xAE#8 "RES 5,(HL)" 16 flagsKKKK
  | .res5A => cbRow 0xAF#8 "RES 5,A" 8 flagsKKKK
  | .res6B => cbRow 0xB0#8 "RES 6,B" 8 flagsKKKK
  | .res6C => cbRow 0xB1#8 "RES 6,C" 8 flagsKKKK
  | .res6D => cbRow 0xB2#8 "RES 6,D" 8 flagsKKKK
  | .res6E => cbRow 0xB3#8 "RES 6,E" 8 flagsKKKK
  | .res6H => cbRow 0xB4#8 "RES 6,H" 8 flagsKKKK
  | .res6L => cbRow 0xB5#8 "RES 6,L" 8 flagsKKKK
  | .res6AtHL => cbRow 0xB6#8 "RES 6,(HL)" 16 flagsKKKK
  | .res6A => cbRow 0xB7#8 "RES 6,A" 8 flagsKKKK
  | .res7B => cbRow 0xB8#8 "RES 7,B" 8 flagsKKKK
  | .res7C => cbRow 0xB9#8 "RES 7,C" 8 flagsKKKK
  | .res7D => cbRow 0xBA#8 "RES 7,D" 8 flagsKKKK
  | .res7E => cbRow 0xBB#8 "RES 7,E" 8 flagsKKKK
  | .res7H => cbRow 0xBC#8 "RES 7,H" 8 flagsKKKK
  | .res7L => cbRow 0xBD#8 "RES 7,L" 8 flagsKKKK
  | .res7AtHL => cbRow 0xBE#8 "RES 7,(HL)" 16 flagsKKKK
  | .res7A => cbRow 0xBF#8 "RES 7,A" 8 flagsKKKK
  | .set0B => cbRow 0xC0#8 "SET 0,B" 8 flagsKKKK
  | .set0C => cbRow 0xC1#8 "SET 0,C" 8 flagsKKKK
  | .set0D => cbRow 0xC2#8 "SET 0,D" 8 flagsKKKK
  | .set0E => cbRow 0xC3#8 "SET 0,E" 8 flagsKKKK
  | .set0H => cbRow 0xC4#8 "SET 0,H" 8 flagsKKKK
  | .set0L => cbRow 0xC5#8 "SET 0,L" 8 flagsKKKK
  | .set0AtHL => cbRow 0xC6#8 "SET 0,(HL)" 16 flagsKKKK
  | .set0A => cbRow 0xC7#8 "SET 0,A" 8 flagsKKKK
  | .set1B => cbRow 0xC8#8 "SET 1,B" 8 flagsKKKK
  | .set1C => cbRow 0xC9#8 "SET 1,C" 8 flagsKKKK
  | .set1D => cbRow 0xCA#8 "SET 1,D" 8 flagsKKKK
  | .set1E => cbRow 0xCB#8 "SET 1,E" 8 flagsKKKK
  | .set1H => cbRow 0xCC#8 "SET 1,H" 8 flagsKKKK
  | .set1L => cbRow 0xCD#8 "SET 1,L" 8 flagsKKKK
  | .set1AtHL => cbRow 0xCE#8 "SET 1,(HL)" 16 flagsKKKK
  | .set1A => cbRow 0xCF#8 "SET 1,A" 8 flagsKKKK
  | .set2B => cbRow 0xD0#8 "SET 2,B" 8 flagsKKKK
  | .set2C => cbRow 0xD1#8 "SET 2,C" 8 flagsKKKK
  | .set2D => cbRow 0xD2#8 "SET 2,D" 8 flagsKKKK
  | .set2E => cbRow 0xD3#8 "SET 2,E" 8 flagsKKKK
  | .set2H => cbRow 0xD4#8 "SET 2,H" 8 flagsKKKK
  | .set2L => cbRow 0xD5#8 "SET 2,L" 8 flagsKKKK
  | .set2AtHL => cbRow 0xD6#8 "SET 2,(HL)" 16 flagsKKKK
  | .set2A => cbRow 0xD7#8 "SET 2,A" 8 flagsKKKK
  | .set3B => cbRow 0xD8#8 "SET 3,B" 8 flagsKKKK
  | .set3C => cbRow 0xD9#8 "SET 3,C" 8 flagsKKKK
  | .set3D => cbRow 0xDA#8 "SET 3,D" 8 flagsKKKK
  | .set3E => cbRow 0xDB#8 "SET 3,E" 8 flagsKKKK
  | .set3H => cbRow 0xDC#8 "SET 3,H" 8 flagsKKKK
  | .set3L => cbRow 0xDD#8 "SET 3,L" 8 flagsKKKK
  | .set3AtHL => cbRow 0xDE#8 "SET 3,(HL)" 16 flagsKKKK
  | .set3A => cbRow 0xDF#8 "SET 3,A" 8 flagsKKKK
  | .set4B => cbRow 0xE0#8 "SET 4,B" 8 flagsKKKK
  | .set4C => cbRow 0xE1#8 "SET 4,C" 8 flagsKKKK
  | .set4D => cbRow 0xE2#8 "SET 4,D" 8 flagsKKKK
  | .set4E => cbRow 0xE3#8 "SET 4,E" 8 flagsKKKK
  | .set4H => cbRow 0xE4#8 "SET 4,H" 8 flagsKKKK
  | .set4L => cbRow 0xE5#8 "SET 4,L" 8 flagsKKKK
  | .set4AtHL => cbRow 0xE6#8 "SET 4,(HL)" 16 flagsKKKK
  | .set4A => cbRow 0xE7#8 "SET 4,A" 8 flagsKKKK
  | .set5B => cbRow 0xE8#8 "SET 5,B" 8 flagsKKKK
  | .set5C => cbRow 0xE9#8 "SET 5,C" 8 flagsKKKK
  | .set5D => cbRow 0xEA#8 "SET 5,D" 8 flagsKKKK
  | .set5E => cbRow 0xEB#8 "SET 5,E" 8 flagsKKKK
  | .set5H => cbRow 0xEC#8 "SET 5,H" 8 flagsKKKK
  | .set5L => cbRow 0xED#8 "SET 5,L" 8 flagsKKKK
  | .set5AtHL => cbRow 0xEE#8 "SET 5,(HL)" 16 flagsKKKK
  | .set5A => cbRow 0xEF#8 "SET 5,A" 8 flagsKKKK
  | .set6B => cbRow 0xF0#8 "SET 6,B" 8 flagsKKKK
  | .set6C => cbRow 0xF1#8 "SET 6,C" 8 flagsKKKK
  | .set6D => cbRow 0xF2#8 "SET 6,D" 8 flagsKKKK
  | .set6E => cbRow 0xF3#8 "SET 6,E" 8 flagsKKKK
  | .set6H => cbRow 0xF4#8 "SET 6,H" 8 flagsKKKK
  | .set6L => cbRow 0xF5#8 "SET 6,L" 8 flagsKKKK
  | .set6AtHL => cbRow 0xF6#8 "SET 6,(HL)" 16 flagsKKKK
  | .set6A => cbRow 0xF7#8 "SET 6,A" 8 flagsKKKK
  | .set7B => cbRow 0xF8#8 "SET 7,B" 8 flagsKKKK
  | .set7C => cbRow 0xF9#8 "SET 7,C" 8 flagsKKKK
  | .set7D => cbRow 0xFA#8 "SET 7,D" 8 flagsKKKK
  | .set7E => cbRow 0xFB#8 "SET 7,E" 8 flagsKKKK
  | .set7H => cbRow 0xFC#8 "SET 7,H" 8 flagsKKKK
  | .set7L => cbRow 0xFD#8 "SET 7,L" 8 flagsKKKK
  | .set7AtHL => cbRow 0xFE#8 "SET 7,(HL)" 16 flagsKKKK
  | .set7A => cbRow 0xFF#8 "SET 7,A" 8 flagsKKKK

/-- The assembler spellings that stand for another one, each with the row's own spelling; `x` is any operand of the
row (rules R129, R130). Every other spelling is the `mnemonic` of a row. -/
def assemblerAliases : List (String × String) :=
  [("LDI (HL),A", "LD (HL+),A"), ("LD (HLI),A", "LD (HL+),A"), ("LDD (HL),A", "LD (HL-),A"),
   ("LD (HLD),A", "LD (HL-),A"), ("LDI A,(HL)", "LD A,(HL+)"), ("LD A,(HLI)", "LD A,(HL+)"),
   ("LDD A,(HL)", "LD A,(HL-)"), ("LD A,(HLD)", "LD A,(HL-)"), ("LD (FF00+a8),A", "LDH (a8),A"),
   ("LD A,(FF00+a8)", "LDH A,(a8)"), ("LD (FF00+C),A", "LD (C),A"), ("JP (HL)", "JP HL"),
   ("LDHL SP,r8", "LD HL,SP+r8"), ("SUB A,x", "SUB x"), ("AND A,x", "AND x"), ("XOR A,x", "XOR x"),
   ("OR A,x", "OR x"), ("CP A,x", "CP x")]

/-- The bytes that follow the opcode byte: the 0 to 2 immediate bytes of rule R111, the ignored byte of `STOP`,
or, for the prefix row, the CB opcode. -/
def Instr.imm : Instr → List Byte
  | .nop => []
  | .ldBCD16 m1 m2 => [m1, m2]
  | .ldAtBCA => []
  | .incBC => []
  | .incB => []
  | .decB => []
  | .ldBD8 n8 => [n8]
  | .rlca => []
  | .ldAtA16SP m1 m2 => [m1, m2]
  | .addHLBC => []
  | .ldAAtBC => []
  | .decBC => []
  | .incC => []
  | .decC => []
  | .ldCD8 n8 => [n8]
  | .rrca => []
  | .stop pad => [pad]
  | .ldDED16 m1 m2 => [m1, m2]
  | .ldAtDEA => []
  | .incDE => []
  | .incD => []
  | .decD => []
  | .ldDD8 n8 => [n8]
  | .rla => []
  | .jrR8 n8 => [n8]
  | .addHLDE => []
  | .ldAAtDE => []
  | .decDE => []
  | .incE => []
  | .decE => []
  | .ldED8 n8 => [n8]
  | .rra => []
  | .jrNZR8 n8 => [n8]
  | .ldHLD16 m1 m2 => [m1, m2]
  | .ldAtHLIncA => []
  | .incHL => []
  | .incH => []
  | .decH => []
  | .ldHD8 n8 => [n8]
  | .daa => []
  | .jrZR8 n8 => [n8]
  | .addHLHL => []
  | .ldAAtHLInc => []
  | .decHL => []
  | .incL => []
  | .decL => []
  | .ldLD8 n8 => [n8]
  | .cpl => []
  | .jrNCR8 n8 => [n8]
  | .ldSPD16 m1 m2 => [m1, m2]
  | .ldAtHLDecA => []
  | .incSP => []
  | .incAtHL => []
  | .decAtHL => []
  | .ldAtHLD8 n8 => [n8]
  | .scf => []
  | .jrCR8 n8 => [n8]
  | .addHLSP => []
  | .ldAAtHLDec => []
  | .decSP => []
  | .incA => []
  | .decA => []
  | .ldAD8 n8 => [n8]
  | .ccf => []
  | .ldBB => []
  | .ldBC => []
  | .ldBD => []
  | .ldBE => []
  | .ldBH => []
  | .ldBL => []
  | .ldBAtHL => []
  | .ldBA => []
  | .ldCB => []
  | .ldCC => []
  | .ldCD => []
  | .ldCE => []
  | .ldCH => []
  | .ldCL => []
  | .ldCAtHL => []
  | .ldCA => []
  | .ldDB => []
  | .ldDC => []
  | .ldDD => []
  | .ldDE => []
  | .ldDH => []
  | .ldDL => []
  | .ldDAtHL => []
  | .ldDA => []
  | .ldEB => []
  | .ldEC => []
  | .ldED => []
  | .ldEE => []
  | .ldEH => []
  | .ldEL => []
  | .ldEAtHL => []
  | .ldEA => []
  | .ldHB => []
  | .ldHC => []
  | .ldHD => []
  | .ldHE => []
  | .ldHH => []
  | .ldHL => []
  | .ldHAtHL => []
  | .ldHA => []
  | .ldLB => []
  | .ldLC => []
  | .ldLD => []
  | .ldLE => []
  | .ldLH => []
  | .ldLL => []
  | .ldLAtHL => []
  | .ldLA => []
  | .ldAtHLB => []
  | .ldAtHLC => []
  | .ldAtHLD => []
  | .ldAtHLE => []
  | .ldAtHLH => []
  | .ldAtHLL => []
  | .halt => []
  | .ldAtHLA => []
  | .ldAB => []
  | .ldAC => []
  | .ldAD => []
  | .ldAE => []
  | .ldAH => []
  | .ldAL => []
  | .ldAAtHL => []
  | .ldAA => []
  | .addAB => []
  | .addAC => []
  | .addAD => []
  | .addAE => []
  | .addAH => []
  | .addAL => []
  | .addAAtHL => []
  | .addAA => []
  | .adcAB => []
  | .adcAC => []
  | .adcAD => []
  | .adcAE => []
  | .adcAH => []
  | .adcAL => []
  | .adcAAtHL => []
  | .adcAA => []
  | .subB => []
  | .subC => []
  | .subD => []
  | .subE => []
  | .subH => []
  | .subL => []
  | .subAtHL => []
  | .subA => []
  | .sbcAB => []
  | .sbcAC => []
  | .sbcAD => []
  | .sbcAE => []
  | .sbcAH => []
  | .sbcAL => []
  | .sbcAAtHL => []
  | .sbcAA => []
  | .andB => []
  | .andC => []
  | .andD => []
  | .andE => []
  | .andH => []
  | .andL => []
  | .andAtHL => []
  | .andA => []
  | .xorB => []
  | .xorC => []
  | .xorD => []
  | .xorE => []
  | .xorH => []
  | .xorL => []
  | .xorAtHL => []
  | .xorA => []
  | .orB => []
  | .orC => []
  | .orD => []
  | .orE => []
  | .orH => []
  | .orL => []
  | .orAtHL => []
  | .orA => []
  | .cpB => []
  | .cpC => []
  | .cpD => []
  | .cpE => []
  | .cpH => []
  | .cpL => []
  | .cpAtHL => []
  | .cpA => []
  | .retNZ => []
  | .popBC => []
  | .jpNZA16 m1 m2 => [m1, m2]
  | .jpA16 m1 m2 => [m1, m2]
  | .callNZA16 m1 m2 => [m1, m2]
  | .pushBC => []
  | .addAD8 n8 => [n8]
  | .rst00 => []
  | .retZ => []
  | .ret => []
  | .jpZA16 m1 m2 => [m1, m2]
  | .prefixCB op => [op]
  | .callZA16 m1 m2 => [m1, m2]
  | .callA16 m1 m2 => [m1, m2]
  | .adcAD8 n8 => [n8]
  | .rst08 => []
  | .retNC => []
  | .popDE => []
  | .jpNCA16 m1 m2 => [m1, m2]
  | .illegalD3 => []
  | .callNCA16 m1 m2 => [m1, m2]
  | .pushDE => []
  | .subD8 n8 => [n8]
  | .rst10 => []
  | .retC => []
  | .reti => []
  | .jpCA16 m1 m2 => [m1, m2]
  | .illegalDB => []
  | .callCA16 m1 m2 => [m1, m2]
  | .illegalDD => []
  | .sbcAD8 n8 => [n8]
  | .rst18 => []
  | .ldhAtA8A n8 => [n8]
  | .popHL => []
  | .ldAtCA => []
  | .illegalE3 => []
  | .illegalE4 => []
  | .pushHL => []
  | .andD8 n8 => [n8]
  | .rst20 => []
  | .addSPR8 n8 => [n8]
  | .jpHL => []
  | .ldAtA16A m1 m2 => [m1, m2]
  | .illegalEB => []
  | .illegalEC => []
  | .illegalED => []
  | .xorD8 n8 => [n8]
  | .rst28 => []
  | .ldhAAtA8 n8 => [n8]
  | .popAF => []
  | .ldAAtC => []
  | .di => []
  | .illegalF4 => []
  | .pushAF => []
  | .orD8 n8 => [n8]
  | .rst30 => []
  | .ldHLSPR8 n8 => [n8]
  | .ldSPHL => []
  | .ldAAtA16 m1 m2 => [m1, m2]
  | .ei => []
  | .illegalFC => []
  | .illegalFD => []
  | .cpD8 n8 => [n8]
  | .rst38 => []
  | .rlcB => []
  | .rlcC => []
  | .rlcD => []
  | .rlcE => []
  | .rlcH => []
  | .rlcL => []
  | .rlcAtHL => []
  | .rlcA => []
  | .rrcB => []
  | .rrcC => []
  | .rrcD => []
  | .rrcE => []
  | .rrcH => []
  | .rrcL => []
  | .rrcAtHL => []
  | .rrcA => []
  | .rlB => []
  | .rlC => []
  | .rlD => []
  | .rlE => []
  | .rlH => []
  | .rlL => []
  | .rlAtHL => []
  | .rlA => []
  | .rrB => []
  | .rrC => []
  | .rrD => []
  | .rrE => []
  | .rrH => []
  | .rrL => []
  | .rrAtHL => []
  | .rrA => []
  | .slaB => []
  | .slaC => []
  | .slaD => []
  | .slaE => []
  | .slaH => []
  | .slaL => []
  | .slaAtHL => []
  | .slaA => []
  | .sraB => []
  | .sraC => []
  | .sraD => []
  | .sraE => []
  | .sraH => []
  | .sraL => []
  | .sraAtHL => []
  | .sraA => []
  | .swapB => []
  | .swapC => []
  | .swapD => []
  | .swapE => []
  | .swapH => []
  | .swapL => []
  | .swapAtHL => []
  | .swapA => []
  | .srlB => []
  | .srlC => []
  | .srlD => []
  | .srlE => []
  | .srlH => []
  | .srlL => []
  | .srlAtHL => []
  | .srlA => []
  | .bit0B => []
  | .bit0C => []
  | .bit0D => []
  | .bit0E => []
  | .bit0H => []
  | .bit0L => []
  | .bit0AtHL => []
  | .bit0A => []
  | .bit1B => []
  | .bit1C => []
  | .bit1D => []
  | .bit1E => []
  | .bit1H => []
  | .bit1L => []
  | .bit1AtHL => []
  | .bit1A => []
  | .bit2B => []
  | .bit2C => []
  | .bit2D => []
  | .bit2E => []
  | .bit2H => []
  | .bit2L => []
  | .bit2AtHL => []
  | .bit2A => []
  | .bit3B => []
  | .bit3C => []
  | .bit3D => []
  | .bit3E => []
  | .bit3H => []
  | .bit3L => []
  | .bit3AtHL => []
  | .bit3A => []
  | .bit4B => []
  | .bit4C => []
  | .bit4D => []
  | .bit4E => []
  | .bit4H => []
  | .bit4L => []
  | .bit4AtHL => []
  | .bit4A => []
  | .bit5B => []
  | .bit5C => []
  | .bit5D => []
  | .bit5E => []
  | .bit5H => []
  | .bit5L => []
  | .bit5AtHL => []
  | .bit5A => []
  | .bit6B => []
  | .bit6C => []
  | .bit6D => []
  | .bit6E => []
  | .bit6H => []
  | .bit6L => []
  | .bit6AtHL => []
  | .bit6A => []
  | .bit7B => []
  | .bit7C => []
  | .bit7D => []
  | .bit7E => []
  | .bit7H => []
  | .bit7L => []
  | .bit7AtHL => []
  | .bit7A => []
  | .res0B => []
  | .res0C => []
  | .res0D => []
  | .res0E => []
  | .res0H => []
  | .res0L => []
  | .res0AtHL => []
  | .res0A => []
  | .res1B => []
  | .res1C => []
  | .res1D => []
  | .res1E => []
  | .res1H => []
  | .res1L => []
  | .res1AtHL => []
  | .res1A => []
  | .res2B => []
  | .res2C => []
  | .res2D => []
  | .res2E => []
  | .res2H => []
  | .res2L => []
  | .res2AtHL => []
  | .res2A => []
  | .res3B => []
  | .res3C => []
  | .res3D => []
  | .res3E => []
  | .res3H => []
  | .res3L => []
  | .res3AtHL => []
  | .res3A => []
  | .res4B => []
  | .res4C => []
  | .res4D => []
  | .res4E => []
  | .res4H => []
  | .res4L => []
  | .res4AtHL => []
  | .res4A => []
  | .res5B => []
  | .res5C => []
  | .res5D => []
  | .res5E => []
  | .res5H => []
  | .res5L => []
  | .res5AtHL => []
  | .res5A => []
  | .res6B => []
  | .res6C => []
  | .res6D => []
  | .res6E => []
  | .res6H => []
  | .res6L => []
  | .res6AtHL => []
  | .res6A => []
  | .res7B => []
  | .res7C => []
  | .res7D => []
  | .res7E => []
  | .res7H => []
  | .res7L => []
  | .res7AtHL => []
  | .res7A => []
  | .set0B => []
  | .set0C => []
  | .set0D => []
  | .set0E => []
  | .set0H => []
  | .set0L => []
  | .set0AtHL => []
  | .set0A => []
  | .set1B => []
  | .set1C => []
  | .set1D => []
  | .set1E => []
  | .set1H => []
  | .set1L => []
  | .set1AtHL => []
  | .set1A => []
  | .set2B => []
  | .set2C => []
  | .set2D => []
  | .set2E => []
  | .set2H => []
  | .set2L => []
  | .set2AtHL => []
  | .set2A => []
  | .set3B => []
  | .set3C => []
  | .set3D => []
  | .set3E => []
  | .set3H => []
  | .set3L => []
  | .set3AtHL => []
  | .set3A => []
  | .set4B => []
  | .set4C => []
  | .set4D => []
  | .set4E => []
  | .set4H => []
  | .set4L => []
  | .set4AtHL => []
  | .set4A => []
  | .set5B => []
  | .set5C => []
  | .set5D => []
  | .set5E => []
  | .set5H => []
  | .set5L => []
  | .set5AtHL => []
  | .set5A => []
  | .set6B => []
  | .set6C => []
  | .set6D => []
  | .set6E => []
  | .set6H => []
  | .set6L => []
  | .set6AtHL => []
  | .set6A => []
  | .set7B => []
  | .set7C => []
  | .set7D => []
  | .set7E => []
  | .set7H => []
  | .set7L => []
  | .set7AtHL => []
  | .set7A => []

/-- The bytes of an instruction, lowest address first (rule R113). -/
def encode (i : Instr) : List Byte :=
  (if i.spec.isPrefixed then [0xCB#8] else []) ++ i.spec.value :: i.imm

end Sys2Proof
end

