-- ==== Sys2Proof/Config.lean ====
section
/-! DEFINITION. The named parameters of 00_scope.md rule R8. Those that are plain data are gathered in
`Params`, which the state carries, so a statement about every state holds for every value of them (log 4).
`CONSUMER_READY` is a free value (log 5). `RESET_PROFILE` and `POWERON_VALUE` are arguments of the host's
reset (log 1, log 13). `BUS` is in `Params` too: the default flat store, or any other pair of functions (log 6). -/

namespace Sys2Proof

/-- `WORD_ORDER` (20_memory.md rule R82): which of the two bytes of a 16-bit value lies lower. -/
inductive WordOrder where
  | littleEndian
  | bigEndian
deriving DecidableEq, Repr

/-- `STOP_WAKE` (60_exceptions.md rule R430): what ends the stopped state. -/
inductive StopWake where
  | anyEnabledInterrupt
  | never
deriving DecidableEq, Repr

/-- One output pixel, a triple of bytes (10_state.md rule R56). -/
structure Rgb where
  r : Byte
  g : Byte
  b : Byte
deriving DecidableEq, Repr

/-- `SHADE_RGB`, a function from a shade 0..3 to a triple (65_ppu.md rule R469), written as its four values. -/
structure ShadeTable where
  shade0 : Rgb
  shade1 : Rgb
  shade2 : Rgb
  shade3 : Rgb
deriving DecidableEq, Repr

/-- `BUS` (20_memory.md rule R81): the flat store, or the n-th of the other pairs of a byte read function and a byte
write function, `Config.busRead n` and `Config.busWrite n`. -/
inductive Bus where
  | flat
  | device (n : Nat)
deriving DecidableEq, Repr

/-- FREE VALUE, the byte read function of `BUS` where it is not the flat store: the byte the device answers, by what
the device holds and the address. It has no body, so what is proved holds for every such function (log 6). -/
opaque Config.busRead : Nat → List Nat → Word → Byte

/-- FREE VALUE, the byte write function that goes with `Config.busRead`: what the device holds after a write, by what
it held, the address and the byte (log 6). -/
opaque Config.busWrite : Nat → List Nat → Word → Byte → List Nat

/-- The parameters of rule R8 that are fixed for a run. -/
structure Params where
  /-- `WORD_ORDER` -/
  wordOrder : WordOrder
  /-- `HALT_BUG` -/
  haltBug   : Bool
  /-- `STOP_WAKE` -/
  stopWake  : StopWake
  /-- `WX_OFFSET`, 0..7 -/
  wxOffset  : Fin 8
  /-- `SHADE_RGB` -/
  shadeRgb  : ShadeTable
  /-- `BUS` -/
  bus       : Bus
deriving DecidableEq, Repr

/-- A grey of one level: all three bytes equal. -/
def Rgb.grey (v : Byte) : Rgb := ⟨v, v, v⟩

/-- The defaults of rule R8 and, for the shades, of 65_ppu.md rule R469. -/
def Params.standard : Params where
  wordOrder := .littleEndian
  haltBug   := false
  stopWake  := .anyEnabledInterrupt
  wxOffset  := 7
  shadeRgb  := ⟨.grey 0xFF#8, .grey 0xAA#8, .grey 0x55#8, .grey 0x00#8⟩
  bus       := .flat

/-- `RESET_PROFILE` (70_reset_and_hazards.md rule R501). -/
inductive ResetProfile where
  | powerOn
  | postBoot
deriving DecidableEq, Repr

/-- The draws of `POWERON_VALUE` that `PowerOn` makes for registers (rules R59, R501). -/
structure PowerOnDraw where
  a : Byte
  f : Byte
  b : Byte
  c : Byte
  d : Byte
  e : Byte
  h : Byte
  l : Byte
  sp : Word
deriving DecidableEq, Repr

/-- FREE VALUE, `CONSUMER_READY` (60_exceptions.md rule R443): the n-th draw of whether the consumer is ready.
It has no body, so nothing can be proved of its value (log 5). -/
opaque Config.consumerReady : Nat → Bool

end Sys2Proof
end

