-- ==== Sys2Proof/Machine/Bits.lean ====
section
/-! DEFINITION. Bits, bytes and words: the notation of 00_scope.md rules R9 to R12 and the byte order of
20_memory.md rule R82. -/

namespace Sys2Proof.Machine

/-- `v[7:4] * 0x10`: the byte with its low nibble cleared (10_state.md rule R33). -/
def highNibble (v : Byte) : Byte := v &&& 0xF0#8

/-- `hi:lo` (rule R12). -/
def joinBytes (hi lo : Byte) : Word := hi ++ lo

/-- `v[15:8]`. -/
def hiByte (v : Word) : Byte := v.extractLsb' 8 8

/-- `v[7:0]`. -/
def loByte (v : Word) : Byte := v.extractLsb' 0 8

/-- `sext_8`: an 8-bit value read as two's complement (rule R11). -/
def sext8 (v : Byte) : Int := v.toInt

/-- `(v + e8) mod 2^16` for a signed 8-bit offset (rules R11, R120). -/
def addSigned (v : Word) (n8 : Byte) : Word := .ofInt 16 (v.toNat + sext8 n8)

/-- The 16-bit value of two bytes, the one at the lower address first (rule R82). -/
def wordOfBytes (o : WordOrder) (first second : Byte) : Word :=
  match o with
  | .littleEndian => joinBytes second first
  | .bigEndian => joinBytes first second

/-- The byte of a 16-bit value that lies at the lower address (rule R82). -/
def lowerByte (o : WordOrder) (v : Word) : Byte :=
  match o with
  | .littleEndian => loByte v
  | .bigEndian => hiByte v

/-- The byte of a 16-bit value that lies at the higher address (rule R82). -/
def upperByte (o : WordOrder) (v : Word) : Byte :=
  match o with
  | .littleEndian => hiByte v
  | .bigEndian => loByte v

end Sys2Proof.Machine
end

