-- ==== Sys2Proof/Machine/State.lean ====
section
/-! DEFINITION. The machine's state as plain data (10_state.md), the reasons a step can stop, and the state right
after reset. INVENTORY.md lists every field with its rule and reset value. -/

namespace Sys2Proof.Machine

/-- The two fault kinds (00_scope.md rule R15). -/
inductive FaultKind where
  | addressOutOfRange
  | invalidOperand
deriving DecidableEq, Repr

/-- A recorded fault: its kind and the PC of the step that faulted (10_state.md rule R43). -/
structure FaultRecord where
  kind : FaultKind
  pc   : Word
deriving DecidableEq, Repr

/-- The PPU's mode (rule R47). -/
inductive PpuMode where
  | oamSearch
  | pixelDrawing
  | hBlank
  | vBlank
deriving DecidableEq, Repr

/-- A finished scanline: 160 pixels, left to right (rule R56). -/
abbrev Scanline := List Rgb

/-- Finished scanlines, line 0 first (rule R56). -/
abbrev Frame := List Scanline

/-- The flat store of 20_memory.md rule R81, sparse: see `Memory.read`, `Memory.write` and `Memory.wf`. -/
abbrev Memory := List Host.Cell

/-- Everything the spec gives the machine. -/
structure State where
  /-- The register file (rules R30, R33 to R35). `f` is the flag byte Z N H C 0 0 0 0. -/
  a : Byte
  f : Byte
  b : Byte
  c : Byte
  d : Byte
  e : Byte
  h : Byte
  l : Byte
  sp : Word
  pc : Word
  /-- Interrupt master enable (rule R39). -/
  ime : Bool
  /-- `ei_armed` (rule R40). -/
  eiArmed : Bool
  /-- Rule R41. -/
  halted : Bool
  stopped : Bool
  /-- Rule R42. -/
  haltbug : Bool
  /-- Rule R43. -/
  fault : Option FaultRecord
  /-- The global cycle counter (rule R45). -/
  cycles : Nat
  /-- The 65,536 bytes of the flat store, the memory-mapped registers among them (rules R44, R48 to R55, R80). -/
  mem : Memory
  /-- The model's own: what the device behind `BUS` holds where `BUS` is not the flat store (rule R81, log 6). -/
  device : List Nat
  /-- The PPU's own state (rule R46). -/
  dot : Nat
  ly : Nat
  mode : PpuMode
  lines : Frame
  statLine : Bool
  frameSlot : Option Frame
  /-- The host's breakpoint address (60_exceptions.md rule R444). -/
  bp : Option Word
  /-- The model's own: how many draws of `CONSUMER_READY` have been made (log 5). -/
  emitted : Nat
  /-- The spec's parameters, which no step changes (log 4). -/
  cfg : Params
deriving DecidableEq, Repr

/-- Why a step gives no next state. -/
inductive Fault where
  /-- Raised by `step` alone, on a machine already frozen by a recorded fault: the spec's `NoStep`
  (60_exceptions.md rules R400, R410). Safe: the spec takes no further step either. -/
  | noStep (kind : FaultKind) (pc : Word)
deriving DecidableEq, Repr

/-- Why the model gives an instruction no meaning. -/
inductive Refusal where
  /-- Raised by an arm of `exec` that has no meaning yet; no arm does. Safe: the run stops. -/
  | notModelled (mnemonic : String)
deriving DecidableEq, Repr

/-- The outcome of an instruction, and of a step. -/
abbrev Result := Host.Outcome State Fault Refusal

/-- The machine right after reset: rule R59, column PostBoot (log 1), with the parameters at their defaults
(log 4), `bp` unset (log 12), no draw made (log 5) and no
device contents (log 6). Memory lists nothing: `Memory.initialByte` says what it
reads as (70_reset_and_hazards.md rule R503, log 2, log 3). -/
def State.reset : State where
  a := 0x01#8
  f := 0xB0#8
  b := 0x00#8
  c := 0x13#8
  d := 0x00#8
  e := 0xD8#8
  h := 0x01#8
  l := 0x4D#8
  sp := 0xFFFE#16
  pc := 0x0100#16
  ime := false
  eiArmed := false
  halted := false
  stopped := false
  haltbug := false
  fault := none
  cycles := 0
  mem := []
  device := []
  dot := 0
  ly := 0
  mode := .oamSearch
  lines := []
  statLine := false
  frameSlot := none
  bp := none
  emitted := 0
  cfg := .standard

end Sys2Proof.Machine
end

