-- ==== Sys2Proof/Machine/Flags.lean ====
section
/-! DEFINITION. The flag byte and every flag computation: 00_scope.md rules R17 and R18, 10_state.md rules R33 and
R36, and the helpers of 42_alu8.md, 43_alu16.md and 44_rotate_shift.md. Operands are taken as integers, the sum is
exact, and the result is narrowed at the end (rule R10). -/

namespace Sys2Proof.Machine

/-! ## The flag byte -/

/-- F with the four flags at bits 7, 6, 5, 4 and zero below (rules R33, R36). -/
def packFlags (z n h c : Bool) : Byte :=
  (if z then 0x80#8 else 0#8) ||| (if n then 0x40#8 else 0#8) ||| (if h then 0x20#8 else 0#8) |||
    (if c then 0x10#8 else 0#8)

/-- Z, bit 7 of F. -/
def State.flagZ (s : State) : Bool := s.f.getLsbD 7

/-- N, bit 6 of F. -/
def State.flagN (s : State) : Bool := s.f.getLsbD 6

/-- H, bit 5 of F. -/
def State.flagH (s : State) : Bool := s.f.getLsbD 5

/-- C, bit 4 of F. -/
def State.flagC (s : State) : Bool := s.f.getLsbD 4

/-- `setflags` (rule R17): a `-` argument is the flag as it was. -/
def State.setFlags (s : State) (z n h c : Bool) : State := { s with f := packFlags z n h c }

/-! ## The 8-bit adder and subtractor -/

/-- What `add8` and `sub8` return. -/
structure AluOut where
  res : Byte
  z   : Bool
  h   : Bool
  c   : Bool
deriving DecidableEq, Repr

/-- `add8` (rule R228). -/
def add8 (a b : Byte) (cin : Bool) : AluOut :=
  let t := a.toNat + b.toNat + cin.toNat
  { res := .ofNat 8 t
    z := t % 256 == 0
    h := decide (0xF < a.toNat % 16 + b.toNat % 16 + cin.toNat)
    c := decide (0xFF < t) }

/-- `sub8` (rule R229): H and C are borrow tests. -/
def sub8 (a b : Byte) (bin : Bool) : AluOut :=
  let t : Int := (a.toNat : Int) - b.toNat - bin.toNat
  { res := .ofInt 8 t
    z := t % 256 == 0
    h := decide (a.toNat % 16 < b.toNat % 16 + bin.toNat)
    c := decide (a.toNat < b.toNat + bin.toNat) }

/-! ## The ALU operations on A -/

/-- What an ALU operation of rule R118 writes: the new A and the flags. -/
structure AluWrite where
  a : Byte
  z : Bool
  n : Bool
  h : Bool
  c : Bool
deriving DecidableEq, Repr

/-- The ALU operation `op` on A and `s` with the old carry (rules R230 to R253). `CP` keeps A. -/
def aluCompute (op : AluOp) (a s : Byte) (carry : Bool) : AluWrite :=
  match op with
  | .add => let o := add8 a s false; ⟨o.res, o.z, false, o.h, o.c⟩
  | .adc => let o := add8 a s carry; ⟨o.res, o.z, false, o.h, o.c⟩
  | .sub => let o := sub8 a s false; ⟨o.res, o.z, true, o.h, o.c⟩
  | .sbc => let o := sub8 a s carry; ⟨o.res, o.z, true, o.h, o.c⟩
  | .and => let r := a &&& s; ⟨r, r == 0#8, false, true, false⟩
  | .xor => let r := a ^^^ s; ⟨r, r == 0#8, false, false, false⟩
  | .or => let r := a ||| s; ⟨r, r == 0#8, false, false, false⟩
  | .cp => let o := sub8 a s false; ⟨a, o.z, true, o.h, o.c⟩

/-- `DAA` (rule R258): the adjusted A and the new C, from A and the old N, H, C. -/
def daaCompute (a : Byte) (n h c : Bool) : Byte × Bool :=
  if n then
    (.ofInt 8 ((a.toNat : Int) - (if c then 0x60 else 0) - (if h then 0x06 else 0)), c)
  else
    let high := c || decide (0x99 < a.toNat)
    let a' := a.toNat + (if high then 0x60 else 0)
    (.ofNat 8 (a' + (if h || decide (0x09 < a' % 16) then 0x06 else 0)), high)

/-! ## The 16-bit sums -/

/-- A 16-bit sum with its half-carry and carry. -/
structure SumOut where
  res : Word
  h   : Bool
  c   : Bool
deriving DecidableEq, Repr

/-- `ADD HL,rr` (rule R263): H out of bit 11, C out of bit 15. -/
def addHLCompute (hl v : Word) : SumOut :=
  let t := hl.toNat + v.toNat
  { res := .ofNat 16 t
    h := decide (0x0FFF < hl.toNat % 0x1000 + v.toNat % 0x1000)
    c := decide (0xFFFF < t) }

/-- `spadd` (rule R262): the sum is signed, H and C are those of the unsigned low bytes. -/
def spaddCompute (sp : Word) (n8 : Byte) : SumOut :=
  { res := addSigned sp n8
    h := decide (0xF < sp.toNat % 16 + n8.toNat % 16)
    c := decide (0xFF < sp.toNat % 256 + n8.toNat) }

/-! ## The shift unit -/

/-- What a bit contributes to a sum: its weight when it is 1, else 0. -/
def bitValue (c : Bool) (weight : Nat) : Nat := if c then weight else 0

/-- `shift(ooo, v)` with the old carry (rule R269): the result and the carry-out. -/
def shiftCompute (op : ShiftOp) (v : Byte) (carry : Bool) : Byte × Bool :=
  let n := v.toNat
  let top := v.getLsbD 7
  let bottom := v.getLsbD 0
  match op with
  | .rlc => (.ofNat 8 (n * 2 % 256 + bitValue top 1), top)
  | .rrc => (.ofNat 8 (n / 2 + bitValue bottom 128), bottom)
  | .rl => (.ofNat 8 (n * 2 % 256 + bitValue carry 1), top)
  | .rr => (.ofNat 8 (n / 2 + bitValue carry 128), bottom)
  | .sla => (.ofNat 8 (n * 2 % 256), top)
  | .sra => (.ofNat 8 (n / 2 + bitValue top 128), bottom)
  | .swap => (.ofNat 8 (n % 16 * 16 + n / 16), false)
  | .srl => (.ofNat 8 (n / 2), bottom)

/-! ## Conditions -/

/-- `cond(cc)` (46_control.md rule R299). -/
def State.cond (s : State) : Cond → Bool
  | .nz => !s.flagZ
  | .z => s.flagZ
  | .nc => !s.flagC
  | .c => s.flagC

end Sys2Proof.Machine
end

