-- ==== Sys2Proof/Machine/Ops.lean ====
section
/-! DEFINITION. The named operations: memory bytes and words, registers and pairs, the stack, raising a fault,
the end of an instruction step, and entering and leaving an interrupt handler. -/

namespace Sys2Proof.Machine

/-! ## Memory -/

/-- The memory bytes 70_reset_and_hazards.md rule R503 gives at reset. -/
def postBootBytes : List Host.Cell :=
  [(0xFF00, 0xCF#8), (0xFF01, 0x00#8), (0xFF02, 0x7E#8), (0xFF04, 0xAB#8), (0xFF05, 0x00#8), (0xFF06, 0x00#8),
   (0xFF07, 0xF8#8), (0xFF0F, 0xE1#8), (0xFF40, 0x91#8), (0xFF41, 0x85#8), (0xFF42, 0x00#8), (0xFF43, 0x00#8),
   (0xFF44, 0x00#8), (0xFF45, 0x00#8), (0xFF46, 0xFF#8), (0xFF47, 0xFC#8), (0xFF4A, 0x00#8), (0xFF4B, 0x00#8),
   (0xFF50, 0x01#8), (0xFFFF, 0x00#8)]

/-- The byte listed for an address, or `dflt`. -/
def lookupByte (dflt : Byte) : List Host.Cell → Nat → Byte
  | [], _ => dflt
  | (k, v) :: rest, a => if k = a then v else lookupByte dflt rest a

/-- What an address that memory does not list reads as: rule R503's byte, and 0x00 where the spec leaves the byte
a draw (DESIGN CHOICE, log 2, log 3). -/
def Memory.initialByte (a : Nat) : Byte := lookupByte 0#8 postBootBytes a

/-- A byte of the flat store (20_memory.md rule R81). -/
def Memory.read (m : Memory) (a : Nat) : Byte := lookupByte (Memory.initialByte a) m a

/-- The entry of a byte at the head of a list of higher addresses, unless it says what the address reads as
without it. -/
def Memory.consCell (a : Nat) (v : Byte) (m : Memory) : Memory := if v = Memory.initialByte a then m else (a, v) :: m

/-- A byte stored in the flat store (rule R81), keeping the canonical form. -/
def Memory.write : Memory → Nat → Byte → Memory
  | [], a, v => Memory.consCell a v []
  | (k, w) :: rest, a, v =>
    if a < k then Memory.consCell a v ((k, w) :: rest)
    else if a = k then Memory.consCell a v rest
    else (k, w) :: Memory.write rest a v

/-- Canonical form above a bound: addresses strictly rising and below 0x10000, no entry that says nothing. -/
def Memory.wfFrom : Nat → Memory → Bool
  | _, [] => true
  | low, (k, v) :: rest =>
    decide (low ≤ k) && decide (k < 0x10000) && decide (v ≠ Memory.initialByte k) && Memory.wfFrom (k + 1) rest

/-- Memory is in its canonical form, so that equal memories are equal lists. -/
def Memory.wf (m : Memory) : Bool := Memory.wfFrom 0 m

/-- The byte read function of `BUS`, by what the flat store and the device hold (rule R81, log 6). -/
def busRead (bus : Bus) (m : Memory) (dev : List Nat) (a : Word) : Byte :=
  match bus with
  | .flat => Memory.read m a.toNat
  | .device n => Config.busRead n dev a

/-- What the byte write function of `BUS` leaves in the flat store. -/
def busWriteStore (bus : Bus) (m : Memory) (a : Word) (v : Byte) : Memory :=
  match bus with
  | .flat => Memory.write m a.toNat v
  | .device _ => m

/-- What the byte write function of `BUS` leaves in the device. -/
def busWriteDevice (bus : Bus) (dev : List Nat) (a : Word) (v : Byte) : List Nat :=
  match bus with
  | .flat => dev
  | .device n => Config.busWrite n dev a v

/-- `MemRead(a, 1)` on `BUS` for a 16-bit address, which is always in range (00_scope.md rule R14, rule R411). -/
def State.readByte (s : State) (a : Word) : Byte := busRead s.cfg.bus s.mem s.device a

/-- `MemWrite(a, 1, v)` on `BUS` for a 16-bit address (rule R14). -/
def State.writeByte (s : State) (a : Word) (v : Byte) : State :=
  { s with
    mem := busWriteStore s.cfg.bus s.mem a v
    device := busWriteDevice s.cfg.bus s.device a v }

/-- Byte writes through `BUS`, one after another (rule R88). -/
def State.writeBytes (s : State) (cells : List (Word × Byte)) : State := cells.foldl (fun t c => t.writeByte c.1 c.2) s

/-- `MemRead(a, 2)` (rule R84): the second address is not reduced, so 0xFFFF faults. -/
def State.readWord (s : State) (a : Word) : Except FaultKind Word :=
  if 0xFFFF < a.toNat + 1 then .error .addressOutOfRange
  else .ok (wordOfBytes s.cfg.wordOrder (s.readByte a) (s.readByte (a + 1)))

/-- `MemWrite(a, 2, v)` of a push: the byte at a+1 first, then the byte at a (rules R84, R88). -/
def State.writeWordDown (s : State) (a v : Word) : Except FaultKind State :=
  if 0xFFFF < a.toNat + 1 then .error .addressOutOfRange
  else .ok ((s.writeByte (a + 1) (upperByte s.cfg.wordOrder v)).writeByte a (lowerByte s.cfg.wordOrder v))

/-- `MemWrite(a, 2, v)` of `LD (a16),SP`: the byte at a first, then the byte at a+1 (rules R84, R88). -/
def State.writeWordUp (s : State) (a v : Word) : Except FaultKind State :=
  if 0xFFFF < a.toNat + 1 then .error .addressOutOfRange
  else .ok ((s.writeByte a (lowerByte s.cfg.wordOrder v)).writeByte (a + 1) (upperByte s.cfg.wordOrder v))

/-! ## Registers and pairs -/

/-- `x[r]` (10_state.md rule R30). -/
def State.reg (s : State) : R7 → Byte
  | .b => s.b
  | .c => s.c
  | .d => s.d
  | .e => s.e
  | .h => s.h
  | .l => s.l
  | .a => s.a

/-- `x[r] <- v`. -/
def State.setReg (s : State) (r : R7) (v : Byte) : State :=
  match r with
  | .b => { s with b := v }
  | .c => { s with c := v }
  | .d => { s with d := v }
  | .e => { s with e := v }
  | .h => { s with h := v }
  | .l => { s with l := v }
  | .a => { s with a := v }

/-- The pair views (10_state.md rule R31). -/
def State.bc (s : State) : Word := joinBytes s.b s.c

/-- See `State.bc`. -/
def State.de (s : State) : Word := joinBytes s.d s.e

/-- See `State.bc`. -/
def State.hl (s : State) : Word := joinBytes s.h s.l

/-- See `State.bc`. -/
def State.af (s : State) : Word := joinBytes s.a s.f

/-- Writing a pair writes both halves in one action (rule R31). -/
def State.setBC (s : State) (v : Word) : State := { s with b := hiByte v, c := loByte v }

/-- See `State.setBC`. -/
def State.setDE (s : State) (v : Word) : State := { s with d := hiByte v, e := loByte v }

/-- See `State.setBC`. -/
def State.setHL (s : State) (v : Word) : State := { s with h := hiByte v, l := loByte v }

/-- Writing AF drops bits 3..0 of the low byte (00_scope.md rule R13, 10_state.md rule R33). -/
def State.setAF (s : State) (v : Word) : State := { s with a := hiByte v, f := highNibble (loByte v) }

/-- A pair of the first table of 30_encoding.md rule R116. -/
def State.pair (s : State) : RR → Word
  | .bc => s.bc
  | .de => s.de
  | .hl => s.hl
  | .sp => s.sp

/-- Writing a pair of the first table. -/
def State.setPair (s : State) (p : RR) (v : Word) : State :=
  match p with
  | .bc => s.setBC v
  | .de => s.setDE v
  | .hl => s.setHL v
  | .sp => { s with sp := v }

/-- A pair of the second table of rule R116. -/
def State.stackPair (s : State) : QQ → Word
  | .bc => s.bc
  | .de => s.de
  | .hl => s.hl
  | .af => s.af

/-- Writing a pair of the second table. -/
def State.setStackPair (s : State) (p : QQ) (v : Word) : State :=
  match p with
  | .bc => s.setBC v
  | .de => s.setDE v
  | .hl => s.setHL v
  | .af => s.setAF v

/-! ## The stack -/

/-- `push16` (41_load16.md rule R219): SP is stored only after the write succeeds. -/
def State.push16 (s : State) (v : Word) : Except FaultKind State :=
  match s.writeWordDown (s.sp - 2) v with
  | .error k => .error k
  | .ok t => .ok { t with sp := s.sp - 2 }

/-- `pop16` (rule R219): the popped word, and the state with SP moved past it. -/
def State.pop16 (s : State) : Except FaultKind (Word × State) :=
  match s.readWord s.sp with
  | .error k => .error k
  | .ok v => .ok (v, { s with sp := s.sp + 2 })

/-! ## Taking a fault -/

/-- Rule R410 of 60_exceptions.md: the step has no effect but to record the fault with the step's PC. -/
def State.raise (s : State) (k : FaultKind) : State := { s with fault := some ⟨k, s.pc⟩ }

/-- A raise as the outcome of an instruction. -/
def raised (s : State) (k : FaultKind) : Result := .next (s.raise k)

/-! ## An instruction step -/

/-- What an instruction rule leaves: the state its pseudocode makes, where it transferred control if it did,
whether its condition held, and whether it set `arm_ei` (rule R400). -/
structure Effect where
  st     : State
  target : Option Word := none
  taken  : Bool := true
  armEI  : Bool := false

/-- `pc_next` for an instruction of `len` bytes, with the HALT bug's one lost step (rule R400, 47_cpu_control.md
rule R321). -/
def State.pcNext (s : State) (len : Nat) : Word := s.pc + .ofNat 16 len - (if s.haltbug then 1#16 else 0#16)

/-- The end of an instruction step begun in `s` (rules R403 to R406): PC, the delayed enable, the cost. -/
def retire (s : State) (len cost notTaken : Nat) (x : Effect) : State :=
  { x.st with
    pc := x.target.getD (s.pcNext len)
    ime := x.st.ime || (s.eiArmed && x.st.eiArmed)
    eiArmed := x.armEI
    cycles := x.st.cycles + (if x.taken then cost else notTaken) }

/-- One instruction step (rule R400) of an instruction with `len` bytes, `cost` cycles and, when a condition
fails, `notTaken` cycles. The rule is given the state, with `haltbug` cleared, and `pc_next`. A raise leaves the
state as it was but for `fault` (rule R410). -/
def instrStep (len cost notTaken : Nat) (rule : State → Word → Except FaultKind Effect) (s : State) : Result :=
  match rule { s with haltbug := false } (s.pcNext len) with
  | .error k => raised s k
  | .ok x => .next (retire s len cost notTaken x)

/-- An instruction that neither transfers, nor tests a condition, nor can fault. -/
def plainStep (len cost : Nat) (f : State → State) : State → Result :=
  instrStep len cost 0 fun s _ => .ok { st := f s }

/-! ## Interrupts -/

/-- IE, at 0xFFFF (10_state.md rule R44). -/
def addrIE : Word := 0xFFFF#16

/-- IF, at 0xFF0F (rule R44). -/
def addrIF : Word := 0xFF0F#16

/-- `pending`: IE & IF & 0x1F (rules R400, R421). -/
def State.pending (s : State) : Byte := s.readByte addrIE &&& s.readByte addrIF &&& 0x1F#8

/-- The index of the lowest set bit of a pending set, 0..4; 4 also stands for the empty set, which is never
dispatched (rules R421, R422). -/
def lowestPending (p : Byte) : Nat :=
  if p.getLsbD 0 then 0 else if p.getLsbD 1 then 1 else if p.getLsbD 2 then 2 else if p.getLsbD 3 then 3 else 4

/-- The vector of interrupt k (rule R420). -/
def interruptVector (k : Nat) : Word := .ofNat 16 (0x40 + 8 * k)

/-- IF with the request bit k cleared. -/
def clearRequest (v : Byte) (k : Nat) : Byte := v &&& ~~~(.ofNat 8 (2 ^ k))

/-- Taking an interrupt (rule R422): acknowledge, IME off, push PC, go to the vector, 20 cycles. -/
def dispatchInterrupt (s : State) : Result :=
  let k := lowestPending s.pending
  let s1 := s.writeByte addrIF (clearRequest (s.readByte addrIF) k)
  let s2 := { s1 with ime := false, eiArmed := false, haltbug := false }
  match s2.push16 s.pc with
  | .error fk => raised s fk
  | .ok t => .next { t with pc := interruptVector k, cycles := t.cycles + 20 }

/-- Returning from a handler, the rule of `RETI` (46_control.md rule R309): pop PC, IME on at once. -/
def returnFromInterrupt (s : State) : Except FaultKind Effect :=
  match s.pop16 with
  | .error k => .error k
  | .ok (v, t) => .ok { st := { t with ime := true }, target := some v }

end Sys2Proof.Machine
end

