-- ==== Sys2Proof/Machine/Operands.lean ====
section
/-! DEFINITION. The operand forms and addressing modes of 30_encoding.md rules R115, R120 and R121. -/

namespace Sys2Proof.Machine

/-- An r8 operand as a source: the register, or the byte at HL (rule R115). -/
def State.operand (s : State) : Operand8 → Byte
  | .reg r => s.reg r
  | .atHL => s.readByte s.hl

/-- An r8 operand as a destination (rule R115). -/
def State.setOperand (s : State) (o : Operand8) (v : Byte) : State :=
  match o with
  | .reg r => s.setReg r v
  | .atHL => s.writeByte s.hl v

/-- `n16`: the two immediate bytes joined in the order of `WORD_ORDER` (00_scope.md rule R16, rule R120). -/
def State.imm16 (s : State) (m1 m2 : Byte) : Word := wordOfBytes s.cfg.wordOrder m1 m2

/-- The I/O page address of `LDH` and `LD (C)`: 0xFF00 plus an unsigned byte (rule R121). -/
def ioAddress (n : Byte) : Word := 0xFF00#16 + n.setWidth 16

end Sys2Proof.Machine
end

