-- ==== Sys2Proof/Machine/Alu16.lean ====
section
/-! DEFINITION. 16-bit arithmetic (43_alu16.md, rules R262 to R266). -/

namespace Sys2Proof.Machine

/-- `ADD HL,rr` (rule R263): Z is kept. -/
def addHLStep (p : RR) : State → Result :=
  plainStep 1 8 fun s =>
    let o := addHLCompute s.hl (s.pair p)
    (s.setHL o.res).setFlags s.flagZ false o.h o.c

/-- `INC rr` and `DEC rr`: the pair moved by `delta` mod 2^16, no flag (rules R264, R265). -/
def movePairStep (p : RR) (delta : Word) : State → Result := plainStep 1 8 fun s => s.setPair p (s.pair p + delta)

/-- `ADD SP,r8` (rule R266). -/
def addSPStep (n8 : Byte) : State → Result :=
  plainStep 2 16 fun s =>
    let o := spaddCompute s.sp n8
    ({ s with sp := o.res } : State).setFlags false false o.h o.c

/-! ## The meanings, one for each row -/

/-- `INC BC` (rule R264). -/
def execIncBC (s : State) : Result := movePairStep .bc 1 s

/-- `ADD HL,BC` (rule R263). -/
def execAddHLBC (s : State) : Result := addHLStep .bc s

/-- `DEC BC` (rule R265). -/
def execDecBC (s : State) : Result := movePairStep .bc (-1) s

/-- `INC DE` (rule R264). -/
def execIncDE (s : State) : Result := movePairStep .de 1 s

/-- `ADD HL,DE` (rule R263). -/
def execAddHLDE (s : State) : Result := addHLStep .de s

/-- `DEC DE` (rule R265). -/
def execDecDE (s : State) : Result := movePairStep .de (-1) s

/-- `INC HL` (rule R264). -/
def execIncHL (s : State) : Result := movePairStep .hl 1 s

/-- `ADD HL,HL` (rule R263). -/
def execAddHLHL (s : State) : Result := addHLStep .hl s

/-- `DEC HL` (rule R265). -/
def execDecHL (s : State) : Result := movePairStep .hl (-1) s

/-- `INC SP` (rule R264). -/
def execIncSP (s : State) : Result := movePairStep .sp 1 s

/-- `ADD HL,SP` (rule R263). -/
def execAddHLSP (s : State) : Result := addHLStep .sp s

/-- `DEC SP` (rule R265). -/
def execDecSP (s : State) : Result := movePairStep .sp (-1) s

/-- `ADD SP,r8` (rule R266). -/
def execAddSPR8 (n8 : Byte) (s : State) : Result := addSPStep n8 s

end Sys2Proof.Machine
end

