-- ==== Sys2Proof/Machine/Alu8.lean ====
section
/-! DEFINITION. 8-bit arithmetic and logic (42_alu8.md, rules R228 to R261). -/

namespace Sys2Proof.Machine

/-- An ALU operation of A with a byte (rules R230 to R253): the operand is read from the state, A and F are written. -/
def aluStep (op : AluOp) (len cost : Nat) (source : State → Byte) : State → Result :=
  plainStep len cost fun s =>
    let w := aluCompute op s.a (source s) s.flagC
    ({ s with a := w.a } : State).setFlags w.z w.n w.h w.c

/-- `INC` of an r8 operand (rules R254, R255): C is kept. -/
def incStep (o : Operand8) (cost : Nat) : State → Result :=
  plainStep 1 cost fun s =>
    let r := add8 (s.operand o) 1 false
    (s.setOperand o r.res).setFlags r.z false r.h s.flagC

/-- `DEC` of an r8 operand (rules R256, R257): C is kept. -/
def decStep (o : Operand8) (cost : Nat) : State → Result :=
  plainStep 1 cost fun s =>
    let r := sub8 (s.operand o) 1 false
    (s.setOperand o r.res).setFlags r.z true r.h s.flagC

/-- `DAA` (rule R258): N is kept, H is cleared. -/
def daaStep : State → Result :=
  plainStep 1 4 fun s =>
    let r := daaCompute s.a s.flagN s.flagH s.flagC
    ({ s with a := r.1 } : State).setFlags (r.1 == 0#8) s.flagN false r.2

/-- `CPL` (rule R259): Z and C are kept. -/
def cplStep : State → Result :=
  plainStep 1 4 fun s => ({ s with a := s.a ^^^ 0xFF#8 } : State).setFlags s.flagZ true true s.flagC

/-- `SCF` (rule R260): Z is kept. -/
def scfStep : State → Result := plainStep 1 4 fun s => s.setFlags s.flagZ false false true

/-- `CCF` (rule R261): Z is kept. -/
def ccfStep : State → Result := plainStep 1 4 fun s => s.setFlags s.flagZ false false (!s.flagC)

/-! ## The meanings, one for each row -/

/-- `INC B` (rule R254). -/
def execIncB (s : State) : Result := incStep (.reg .b) 4 s

/-- `DEC B` (rule R256). -/
def execDecB (s : State) : Result := decStep (.reg .b) 4 s

/-- `INC C` (rule R254). -/
def execIncC (s : State) : Result := incStep (.reg .c) 4 s

/-- `DEC C` (rule R256). -/
def execDecC (s : State) : Result := decStep (.reg .c) 4 s

/-- `INC D` (rule R254). -/
def execIncD (s : State) : Result := incStep (.reg .d) 4 s

/-- `DEC D` (rule R256). -/
def execDecD (s : State) : Result := decStep (.reg .d) 4 s

/-- `INC E` (rule R254). -/
def execIncE (s : State) : Result := incStep (.reg .e) 4 s

/-- `DEC E` (rule R256). -/
def execDecE (s : State) : Result := decStep (.reg .e) 4 s

/-- `INC H` (rule R254). -/
def execIncH (s : State) : Result := incStep (.reg .h) 4 s

/-- `DEC H` (rule R256). -/
def execDecH (s : State) : Result := decStep (.reg .h) 4 s

/-- `DAA` (rule R258). -/
def execDaa (s : State) : Result := daaStep s

/-- `INC L` (rule R254). -/
def execIncL (s : State) : Result := incStep (.reg .l) 4 s

/-- `DEC L` (rule R256). -/
def execDecL (s : State) : Result := decStep (.reg .l) 4 s

/-- `CPL` (rule R259). -/
def execCpl (s : State) : Result := cplStep s

/-- `INC (HL)` (rule R255). -/
def execIncAtHL (s : State) : Result := incStep .atHL 12 s

/-- `DEC (HL)` (rule R257). -/
def execDecAtHL (s : State) : Result := decStep .atHL 12 s

/-- `SCF` (rule R260). -/
def execScf (s : State) : Result := scfStep s

/-- `INC A` (rule R254). -/
def execIncA (s : State) : Result := incStep (.reg .a) 4 s

/-- `DEC A` (rule R256). -/
def execDecA (s : State) : Result := decStep (.reg .a) 4 s

/-- `CCF` (rule R261). -/
def execCcf (s : State) : Result := ccfStep s

/-- `ADD A,B` (rule R230). -/
def execAddAB (s : State) : Result := aluStep .add 1 4 (·.operand (.reg .b)) s

/-- `ADD A,C` (rule R230). -/
def execAddAC (s : State) : Result := aluStep .add 1 4 (·.operand (.reg .c)) s

/-- `ADD A,D` (rule R230). -/
def execAddAD (s : State) : Result := aluStep .add 1 4 (·.operand (.reg .d)) s

/-- `ADD A,E` (rule R230). -/
def execAddAE (s : State) : Result := aluStep .add 1 4 (·.operand (.reg .e)) s

/-- `ADD A,H` (rule R230). -/
def execAddAH (s : State) : Result := aluStep .add 1 4 (·.operand (.reg .h)) s

/-- `ADD A,L` (rule R230). -/
def execAddAL (s : State) : Result := aluStep .add 1 4 (·.operand (.reg .l)) s

/-- `ADD A,(HL)` (rule R231). -/
def execAddAAtHL (s : State) : Result := aluStep .add 1 8 (·.operand .atHL) s

/-- `ADD A,A` (rule R230). -/
def execAddAA (s : State) : Result := aluStep .add 1 4 (·.operand (.reg .a)) s

/-- `ADC A,B` (rule R233). -/
def execAdcAB (s : State) : Result := aluStep .adc 1 4 (·.operand (.reg .b)) s

/-- `ADC A,C` (rule R233). -/
def execAdcAC (s : State) : Result := aluStep .adc 1 4 (·.operand (.reg .c)) s

/-- `ADC A,D` (rule R233). -/
def execAdcAD (s : State) : Result := aluStep .adc 1 4 (·.operand (.reg .d)) s

/-- `ADC A,E` (rule R233). -/
def execAdcAE (s : State) : Result := aluStep .adc 1 4 (·.operand (.reg .e)) s

/-- `ADC A,H` (rule R233). -/
def execAdcAH (s : State) : Result := aluStep .adc 1 4 (·.operand (.reg .h)) s

/-- `ADC A,L` (rule R233). -/
def execAdcAL (s : State) : Result := aluStep .adc 1 4 (·.operand (.reg .l)) s

/-- `ADC A,(HL)` (rule R234). -/
def execAdcAAtHL (s : State) : Result := aluStep .adc 1 8 (·.operand .atHL) s

/-- `ADC A,A` (rule R233). -/
def execAdcAA (s : State) : Result := aluStep .adc 1 4 (·.operand (.reg .a)) s

/-- `SUB B` (rule R236). -/
def execSubB (s : State) : Result := aluStep .sub 1 4 (·.operand (.reg .b)) s

/-- `SUB C` (rule R236). -/
def execSubC (s : State) : Result := aluStep .sub 1 4 (·.operand (.reg .c)) s

/-- `SUB D` (rule R236). -/
def execSubD (s : State) : Result := aluStep .sub 1 4 (·.operand (.reg .d)) s

/-- `SUB E` (rule R236). -/
def execSubE (s : State) : Result := aluStep .sub 1 4 (·.operand (.reg .e)) s

/-- `SUB H` (rule R236). -/
def execSubH (s : State) : Result := aluStep .sub 1 4 (·.operand (.reg .h)) s

/-- `SUB L` (rule R236). -/
def execSubL (s : State) : Result := aluStep .sub 1 4 (·.operand (.reg .l)) s

/-- `SUB (HL)` (rule R237). -/
def execSubAtHL (s : State) : Result := aluStep .sub 1 8 (·.operand .atHL) s

/-- `SUB A` (rule R236). -/
def execSubA (s : State) : Result := aluStep .sub 1 4 (·.operand (.reg .a)) s

/-- `SBC A,B` (rule R239). -/
def execSbcAB (s : State) : Result := aluStep .sbc 1 4 (·.operand (.reg .b)) s

/-- `SBC A,C` (rule R239). -/
def execSbcAC (s : State) : Result := aluStep .sbc 1 4 (·.operand (.reg .c)) s

/-- `SBC A,D` (rule R239). -/
def execSbcAD (s : State) : Result := aluStep .sbc 1 4 (·.operand (.reg .d)) s

/-- `SBC A,E` (rule R239). -/
def execSbcAE (s : State) : Result := aluStep .sbc 1 4 (·.operand (.reg .e)) s

/-- `SBC A,H` (rule R239). -/
def execSbcAH (s : State) : Result := aluStep .sbc 1 4 (·.operand (.reg .h)) s

/-- `SBC A,L` (rule R239). -/
def execSbcAL (s : State) : Result := aluStep .sbc 1 4 (·.operand (.reg .l)) s

/-- `SBC A,(HL)` (rule R240). -/
def execSbcAAtHL (s : State) : Result := aluStep .sbc 1 8 (·.operand .atHL) s

/-- `SBC A,A` (rule R239). -/
def execSbcAA (s : State) : Result := aluStep .sbc 1 4 (·.operand (.reg .a)) s

/-- `AND B` (rule R242). -/
def execAndB (s : State) : Result := aluStep .and 1 4 (·.operand (.reg .b)) s

/-- `AND C` (rule R242). -/
def execAndC (s : State) : Result := aluStep .and 1 4 (·.operand (.reg .c)) s

/-- `AND D` (rule R242). -/
def execAndD (s : State) : Result := aluStep .and 1 4 (·.operand (.reg .d)) s

/-- `AND E` (rule R242). -/
def execAndE (s : State) : Result := aluStep .and 1 4 (·.operand (.reg .e)) s

/-- `AND H` (rule R242). -/
def execAndH (s : State) : Result := aluStep .and 1 4 (·.operand (.reg .h)) s

/-- `AND L` (rule R242). -/
def execAndL (s : State) : Result := aluStep .and 1 4 (·.operand (.reg .l)) s

/-- `AND (HL)` (rule R243). -/
def execAndAtHL (s : State) : Result := aluStep .and 1 8 (·.operand .atHL) s

/-- `AND A` (rule R242). -/
def execAndA (s : State) : Result := aluStep .and 1 4 (·.operand (.reg .a)) s

/-- `XOR B` (rule R245). -/
def execXorB (s : State) : Result := aluStep .xor 1 4 (·.operand (.reg .b)) s

/-- `XOR C` (rule R245). -/
def execXorC (s : State) : Result := aluStep .xor 1 4 (·.operand (.reg .c)) s

/-- `XOR D` (rule R245). -/
def execXorD (s : State) : Result := aluStep .xor 1 4 (·.operand (.reg .d)) s

/-- `XOR E` (rule R245). -/
def execXorE (s : State) : Result := aluStep .xor 1 4 (·.operand (.reg .e)) s

/-- `XOR H` (rule R245). -/
def execXorH (s : State) : Result := aluStep .xor 1 4 (·.operand (.reg .h)) s

/-- `XOR L` (rule R245). -/
def execXorL (s : State) : Result := aluStep .xor 1 4 (·.operand (.reg .l)) s

/-- `XOR (HL)` (rule R246). -/
def execXorAtHL (s : State) : Result := aluStep .xor 1 8 (·.operand .atHL) s

/-- `XOR A` (rule R245). -/
def execXorA (s : State) : Result := aluStep .xor 1 4 (·.operand (.reg .a)) s

/-- `OR B` (rule R248). -/
def execOrB (s : State) : Result := aluStep .or 1 4 (·.operand (.reg .b)) s

/-- `OR C` (rule R248). -/
def execOrC (s : State) : Result := aluStep .or 1 4 (·.operand (.reg .c)) s

/-- `OR D` (rule R248). -/
def execOrD (s : State) : Result := aluStep .or 1 4 (·.operand (.reg .d)) s

/-- `OR E` (rule R248). -/
def execOrE (s : State) : Result := aluStep .or 1 4 (·.operand (.reg .e)) s

/-- `OR H` (rule R248). -/
def execOrH (s : State) : Result := aluStep .or 1 4 (·.operand (.reg .h)) s

/-- `OR L` (rule R248). -/
def execOrL (s : State) : Result := aluStep .or 1 4 (·.operand (.reg .l)) s

/-- `OR (HL)` (rule R249). -/
def execOrAtHL (s : State) : Result := aluStep .or 1 8 (·.operand .atHL) s

/-- `OR A` (rule R248). -/
def execOrA (s : State) : Result := aluStep .or 1 4 (·.operand (.reg .a)) s

/-- `CP B` (rule R251). -/
def execCpB (s : State) : Result := aluStep .cp 1 4 (·.operand (.reg .b)) s

/-- `CP C` (rule R251). -/
def execCpC (s : State) : Result := aluStep .cp 1 4 (·.operand (.reg .c)) s

/-- `CP D` (rule R251). -/
def execCpD (s : State) : Result := aluStep .cp 1 4 (·.operand (.reg .d)) s

/-- `CP E` (rule R251). -/
def execCpE (s : State) : Result := aluStep .cp 1 4 (·.operand (.reg .e)) s

/-- `CP H` (rule R251). -/
def execCpH (s : State) : Result := aluStep .cp 1 4 (·.operand (.reg .h)) s

/-- `CP L` (rule R251). -/
def execCpL (s : State) : Result := aluStep .cp 1 4 (·.operand (.reg .l)) s

/-- `CP (HL)` (rule R252). -/
def execCpAtHL (s : State) : Result := aluStep .cp 1 8 (·.operand .atHL) s

/-- `CP A` (rule R251). -/
def execCpA (s : State) : Result := aluStep .cp 1 4 (·.operand (.reg .a)) s

/-- `ADD A,d8` (rule R232). -/
def execAddAD8 (n8 : Byte) (s : State) : Result := aluStep .add 2 8 (fun _ => n8) s

/-- `ADC A,d8` (rule R235). -/
def execAdcAD8 (n8 : Byte) (s : State) : Result := aluStep .adc 2 8 (fun _ => n8) s

/-- `SUB d8` (rule R238). -/
def execSubD8 (n8 : Byte) (s : State) : Result := aluStep .sub 2 8 (fun _ => n8) s

/-- `SBC A,d8` (rule R241). -/
def execSbcAD8 (n8 : Byte) (s : State) : Result := aluStep .sbc 2 8 (fun _ => n8) s

/-- `AND d8` (rule R244). -/
def execAndD8 (n8 : Byte) (s : State) : Result := aluStep .and 2 8 (fun _ => n8) s

/-- `XOR d8` (rule R247). -/
def execXorD8 (n8 : Byte) (s : State) : Result := aluStep .xor 2 8 (fun _ => n8) s

/-- `OR d8` (rule R250). -/
def execOrD8 (n8 : Byte) (s : State) : Result := aluStep .or 2 8 (fun _ => n8) s

/-- `CP d8` (rule R253). -/
def execCpD8 (n8 : Byte) (s : State) : Result := aluStep .cp 2 8 (fun _ => n8) s

end Sys2Proof.Machine
end

