-- ==== Sys2Proof/Machine/Bit.lean ====
section
/-! DEFINITION. Bit test, set and reset (45_bit.md, rules R290 to R295). -/

namespace Sys2Proof.Machine

/-- `BIT b` of an r8 operand: Z is the complement of the bit, C is kept, nothing but F changes (rules R290, R291). -/
def bitStep (b : Nat) (o : Operand8) (cost : Nat) : State → Result :=
  plainStep 2 cost fun s => s.setFlags (!(s.operand o).getLsbD b) false true s.flagC

/-- A byte with bit b cleared. -/
def clearBit (v : Byte) (b : Nat) : Byte := v &&& ~~~(1#8 <<< b)

/-- A byte with bit b set. -/
def setBit (v : Byte) (b : Nat) : Byte := v ||| (1#8 <<< b)

/-- `RES b` of an r8 operand (rules R292, R293). -/
def resStep (b : Nat) (o : Operand8) (cost : Nat) : State → Result :=
  plainStep 2 cost fun s => s.setOperand o (clearBit (s.operand o) b)

/-- `SET b` of an r8 operand (rules R294, R295). -/
def setStep (b : Nat) (o : Operand8) (cost : Nat) : State → Result :=
  plainStep 2 cost fun s => s.setOperand o (setBit (s.operand o) b)

/-! ## The meanings, one for each row -/

/-- `BIT 0,B` (rule R290). -/
def execBit0B (s : State) : Result := bitStep 0 (.reg .b) 8 s

/-- `BIT 0,C` (rule R290). -/
def execBit0C (s : State) : Result := bitStep 0 (.reg .c) 8 s

/-- `BIT 0,D` (rule R290). -/
def execBit0D (s : State) : Result := bitStep 0 (.reg .d) 8 s

/-- `BIT 0,E` (rule R290). -/
def execBit0E (s : State) : Result := bitStep 0 (.reg .e) 8 s

/-- `BIT 0,H` (rule R290). -/
def execBit0H (s : State) : Result := bitStep 0 (.reg .h) 8 s

/-- `BIT 0,L` (rule R290). -/
def execBit0L (s : State) : Result := bitStep 0 (.reg .l) 8 s

/-- `BIT 0,(HL)` (rule R291). -/
def execBit0AtHL (s : State) : Result := bitStep 0 .atHL 12 s

/-- `BIT 0,A` (rule R290). -/
def execBit0A (s : State) : Result := bitStep 0 (.reg .a) 8 s

/-- `BIT 1,B` (rule R290). -/
def execBit1B (s : State) : Result := bitStep 1 (.reg .b) 8 s

/-- `BIT 1,C` (rule R290). -/
def execBit1C (s : State) : Result := bitStep 1 (.reg .c) 8 s

/-- `BIT 1,D` (rule R290). -/
def execBit1D (s : State) : Result := bitStep 1 (.reg .d) 8 s

/-- `BIT 1,E` (rule R290). -/
def execBit1E (s : State) : Result := bitStep 1 (.reg .e) 8 s

/-- `BIT 1,H` (rule R290). -/
def execBit1H (s : State) : Result := bitStep 1 (.reg .h) 8 s

/-- `BIT 1,L` (rule R290). -/
def execBit1L (s : State) : Result := bitStep 1 (.reg .l) 8 s

/-- `BIT 1,(HL)` (rule R291). -/
def execBit1AtHL (s : State) : Result := bitStep 1 .atHL 12 s

/-- `BIT 1,A` (rule R290). -/
def execBit1A (s : State) : Result := bitStep 1 (.reg .a) 8 s

/-- `BIT 2,B` (rule R290). -/
def execBit2B (s : State) : Result := bitStep 2 (.reg .b) 8 s

/-- `BIT 2,C` (rule R290). -/
def execBit2C (s : State) : Result := bitStep 2 (.reg .c) 8 s

/-- `BIT 2,D` (rule R290). -/
def execBit2D (s : State) : Result := bitStep 2 (.reg .d) 8 s

/-- `BIT 2,E` (rule R290). -/
def execBit2E (s : State) : Result := bitStep 2 (.reg .e) 8 s

/-- `BIT 2,H` (rule R290). -/
def execBit2H (s : State) : Result := bitStep 2 (.reg .h) 8 s

/-- `BIT 2,L` (rule R290). -/
def execBit2L (s : State) : Result := bitStep 2 (.reg .l) 8 s

/-- `BIT 2,(HL)` (rule R291). -/
def execBit2AtHL (s : State) : Result := bitStep 2 .atHL 12 s

/-- `BIT 2,A` (rule R290). -/
def execBit2A (s : State) : Result := bitStep 2 (.reg .a) 8 s

/-- `BIT 3,B` (rule R290). -/
def execBit3B (s : State) : Result := bitStep 3 (.reg .b) 8 s

/-- `BIT 3,C` (rule R290). -/
def execBit3C (s : State) : Result := bitStep 3 (.reg .c) 8 s

/-- `BIT 3,D` (rule R290). -/
def execBit3D (s : State) : Result := bitStep 3 (.reg .d) 8 s

/-- `BIT 3,E` (rule R290). -/
def execBit3E (s : State) : Result := bitStep 3 (.reg .e) 8 s

/-- `BIT 3,H` (rule R290). -/
def execBit3H (s : State) : Result := bitStep 3 (.reg .h) 8 s

/-- `BIT 3,L` (rule R290). -/
def execBit3L (s : State) : Result := bitStep 3 (.reg .l) 8 s

/-- `BIT 3,(HL)` (rule R291). -/
def execBit3AtHL (s : State) : Result := bitStep 3 .atHL 12 s

/-- `BIT 3,A` (rule R290). -/
def execBit3A (s : State) : Result := bitStep 3 (.reg .a) 8 s

/-- `BIT 4,B` (rule R290). -/
def execBit4B (s : State) : Result := bitStep 4 (.reg .b) 8 s

/-- `BIT 4,C` (rule R290). -/
def execBit4C (s : State) : Result := bitStep 4 (.reg .c) 8 s

/-- `BIT 4,D` (rule R290). -/
def execBit4D (s : State) : Result := bitStep 4 (.reg .d) 8 s

/-- `BIT 4,E` (rule R290). -/
def execBit4E (s : State) : Result := bitStep 4 (.reg .e) 8 s

/-- `BIT 4,H` (rule R290). -/
def execBit4H (s : State) : Result := bitStep 4 (.reg .h) 8 s

/-- `BIT 4,L` (rule R290). -/
def execBit4L (s : State) : Result := bitStep 4 (.reg .l) 8 s

/-- `BIT 4,(HL)` (rule R291). -/
def execBit4AtHL (s : State) : Result := bitStep 4 .atHL 12 s

/-- `BIT 4,A` (rule R290). -/
def execBit4A (s : State) : Result := bitStep 4 (.reg .a) 8 s

/-- `BIT 5,B` (rule R290). -/
def execBit5B (s : State) : Result := bitStep 5 (.reg .b) 8 s

/-- `BIT 5,C` (rule R290). -/
def execBit5C (s : State) : Result := bitStep 5 (.reg .c) 8 s

/-- `BIT 5,D` (rule R290). -/
def execBit5D (s : State) : Result := bitStep 5 (.reg .d) 8 s

/-- `BIT 5,E` (rule R290). -/
def execBit5E (s : State) : Result := bitStep 5 (.reg .e) 8 s

/-- `BIT 5,H` (rule R290). -/
def execBit5H (s : State) : Result := bitStep 5 (.reg .h) 8 s

/-- `BIT 5,L` (rule R290). -/
def execBit5L (s : State) : Result := bitStep 5 (.reg .l) 8 s

/-- `BIT 5,(HL)` (rule R291). -/
def execBit5AtHL (s : State) : Result := bitStep 5 .atHL 12 s

/-- `BIT 5,A` (rule R290). -/
def execBit5A (s : State) : Result := bitStep 5 (.reg .a) 8 s

/-- `BIT 6,B` (rule R290). -/
def execBit6B (s : State) : Result := bitStep 6 (.reg .b) 8 s

/-- `BIT 6,C` (rule R290). -/
def execBit6C (s : State) : Result := bitStep 6 (.reg .c) 8 s

/-- `BIT 6,D` (rule R290). -/
def execBit6D (s : State) : Result := bitStep 6 (.reg .d) 8 s

/-- `BIT 6,E` (rule R290). -/
def execBit6E (s : State) : Result := bitStep 6 (.reg .e) 8 s

/-- `BIT 6,H` (rule R290). -/
def execBit6H (s : State) : Result := bitStep 6 (.reg .h) 8 s

/-- `BIT 6,L` (rule R290). -/
def execBit6L (s : State) : Result := bitStep 6 (.reg .l) 8 s

/-- `BIT 6,(HL)` (rule R291). -/
def execBit6AtHL (s : State) : Result := bitStep 6 .atHL 12 s

/-- `BIT 6,A` (rule R290). -/
def execBit6A (s : State) : Result := bitStep 6 (.reg .a) 8 s

/-- `BIT 7,B` (rule R290). -/
def execBit7B (s : State) : Result := bitStep 7 (.reg .b) 8 s

/-- `BIT 7,C` (rule R290). -/
def execBit7C (s : State) : Result := bitStep 7 (.reg .c) 8 s

/-- `BIT 7,D` (rule R290). -/
def execBit7D (s : State) : Result := bitStep 7 (.reg .d) 8 s

/-- `BIT 7,E` (rule R290). -/
def execBit7E (s : State) : Result := bitStep 7 (.reg .e) 8 s

/-- `BIT 7,H` (rule R290). -/
def execBit7H (s : State) : Result := bitStep 7 (.reg .h) 8 s

/-- `BIT 7,L` (rule R290). -/
def execBit7L (s : State) : Result := bitStep 7 (.reg .l) 8 s

/-- `BIT 7,(HL)` (rule R291). -/
def execBit7AtHL (s : State) : Result := bitStep 7 .atHL 12 s

/-- `BIT 7,A` (rule R290). -/
def execBit7A (s : State) : Result := bitStep 7 (.reg .a) 8 s

/-- `RES 0,B` (rule R292). -/
def execRes0B (s : State) : Result := resStep 0 (.reg .b) 8 s

/-- `RES 0,C` (rule R292). -/
def execRes0C (s : State) : Result := resStep 0 (.reg .c) 8 s

/-- `RES 0,D` (rule R292). -/
def execRes0D (s : State) : Result := resStep 0 (.reg .d) 8 s

/-- `RES 0,E` (rule R292). -/
def execRes0E (s : State) : Result := resStep 0 (.reg .e) 8 s

/-- `RES 0,H` (rule R292). -/
def execRes0H (s : State) : Result := resStep 0 (.reg .h) 8 s

/-- `RES 0,L` (rule R292). -/
def execRes0L (s : State) : Result := resStep 0 (.reg .l) 8 s

/-- `RES 0,(HL)` (rule R293). -/
def execRes0AtHL (s : State) : Result := resStep 0 .atHL 16 s

/-- `RES 0,A` (rule R292). -/
def execRes0A (s : State) : Result := resStep 0 (.reg .a) 8 s

/-- `RES 1,B` (rule R292). -/
def execRes1B (s : State) : Result := resStep 1 (.reg .b) 8 s

/-- `RES 1,C` (rule R292). -/
def execRes1C (s : State) : Result := resStep 1 (.reg .c) 8 s

/-- `RES 1,D` (rule R292). -/
def execRes1D (s : State) : Result := resStep 1 (.reg .d) 8 s

/-- `RES 1,E` (rule R292). -/
def execRes1E (s : State) : Result := resStep 1 (.reg .e) 8 s

/-- `RES 1,H` (rule R292). -/
def execRes1H (s : State) : Result := resStep 1 (.reg .h) 8 s

/-- `RES 1,L` (rule R292). -/
def execRes1L (s : State) : Result := resStep 1 (.reg .l) 8 s

/-- `RES 1,(HL)` (rule R293). -/
def execRes1AtHL (s : State) : Result := resStep 1 .atHL 16 s

/-- `RES 1,A` (rule R292). -/
def execRes1A (s : State) : Result := resStep 1 (.reg .a) 8 s

/-- `RES 2,B` (rule R292). -/
def execRes2B (s : State) : Result := resStep 2 (.reg .b) 8 s

/-- `RES 2,C` (rule R292). -/
def execRes2C (s : State) : Result := resStep 2 (.reg .c) 8 s

/-- `RES 2,D` (rule R292). -/
def execRes2D (s : State) : Result := resStep 2 (.reg .d) 8 s

/-- `RES 2,E` (rule R292). -/
def execRes2E (s : State) : Result := resStep 2 (.reg .e) 8 s

/-- `RES 2,H` (rule R292). -/
def execRes2H (s : State) : Result := resStep 2 (.reg .h) 8 s

/-- `RES 2,L` (rule R292). -/
def execRes2L (s : State) : Result := resStep 2 (.reg .l) 8 s

/-- `RES 2,(HL)` (rule R293). -/
def execRes2AtHL (s : State) : Result := resStep 2 .atHL 16 s

/-- `RES 2,A` (rule R292). -/
def execRes2A (s : State) : Result := resStep 2 (.reg .a) 8 s

/-- `RES 3,B` (rule R292). -/
def execRes3B (s : State) : Result := resStep 3 (.reg .b) 8 s

/-- `RES 3,C` (rule R292). -/
def execRes3C (s : State) : Result := resStep 3 (.reg .c) 8 s

/-- `RES 3,D` (rule R292). -/
def execRes3D (s : State) : Result := resStep 3 (.reg .d) 8 s

/-- `RES 3,E` (rule R292). -/
def execRes3E (s : State) : Result := resStep 3 (.reg .e) 8 s

/-- `RES 3,H` (rule R292). -/
def execRes3H (s : State) : Result := resStep 3 (.reg .h) 8 s

/-- `RES 3,L` (rule R292). -/
def execRes3L (s : State) : Result := resStep 3 (.reg .l) 8 s

/-- `RES 3,(HL)` (rule R293). -/
def execRes3AtHL (s : State) : Result := resStep 3 .atHL 16 s

/-- `RES 3,A` (rule R292). -/
def execRes3A (s : State) : Result := resStep 3 (.reg .a) 8 s

/-- `RES 4,B` (rule R292). -/
def execRes4B (s : State) : Result := resStep 4 (.reg .b) 8 s

/-- `RES 4,C` (rule R292). -/
def execRes4C (s : State) : Result := resStep 4 (.reg .c) 8 s

/-- `RES 4,D` (rule R292). -/
def execRes4D (s : State) : Result := resStep 4 (.reg .d) 8 s

/-- `RES 4,E` (rule R292). -/
def execRes4E (s : State) : Result := resStep 4 (.reg .e) 8 s

/-- `RES 4,H` (rule R292). -/
def execRes4H (s : State) : Result := resStep 4 (.reg .h) 8 s

/-- `RES 4,L` (rule R292). -/
def execRes4L (s : State) : Result := resStep 4 (.reg .l) 8 s

/-- `RES 4,(HL)` (rule R293). -/
def execRes4AtHL (s : State) : Result := resStep 4 .atHL 16 s

/-- `RES 4,A` (rule R292). -/
def execRes4A (s : State) : Result := resStep 4 (.reg .a) 8 s

/-- `RES 5,B` (rule R292). -/
def execRes5B (s : State) : Result := resStep 5 (.reg .b) 8 s

/-- `RES 5,C` (rule R292). -/
def execRes5C (s : State) : Result := resStep 5 (.reg .c) 8 s

/-- `RES 5,D` (rule R292). -/
def execRes5D (s : State) : Result := resStep 5 (.reg .d) 8 s

/-- `RES 5,E` (rule R292). -/
def execRes5E (s : State) : Result := resStep 5 (.reg .e) 8 s

/-- `RES 5,H` (rule R292). -/
def execRes5H (s : State) : Result := resStep 5 (.reg .h) 8 s

/-- `RES 5,L` (rule R292). -/
def execRes5L (s : State) : Result := resStep 5 (.reg .l) 8 s

/-- `RES 5,(HL)` (rule R293). -/
def execRes5AtHL (s : State) : Result := resStep 5 .atHL 16 s

/-- `RES 5,A` (rule R292). -/
def execRes5A (s : State) : Result := resStep 5 (.reg .a) 8 s

/-- `RES 6,B` (rule R292). -/
def execRes6B (s : State) : Result := resStep 6 (.reg .b) 8 s

/-- `RES 6,C` (rule R292). -/
def execRes6C (s : State) : Result := resStep 6 (.reg .c) 8 s

/-- `RES 6,D` (rule R292). -/
def execRes6D (s : State) : Result := resStep 6 (.reg .d) 8 s

/-- `RES 6,E` (rule R292). -/
def execRes6E (s : State) : Result := resStep 6 (.reg .e) 8 s

/-- `RES 6,H` (rule R292). -/
def execRes6H (s : State) : Result := resStep 6 (.reg .h) 8 s

/-- `RES 6,L` (rule R292). -/
def execRes6L (s : State) : Result := resStep 6 (.reg .l) 8 s

/-- `RES 6,(HL)` (rule R293). -/
def execRes6AtHL (s : State) : Result := resStep 6 .atHL 16 s

/-- `RES 6,A` (rule R292). -/
def execRes6A (s : State) : Result := resStep 6 (.reg .a) 8 s

/-- `RES 7,B` (rule R292). -/
def execRes7B (s : State) : Result := resStep 7 (.reg .b) 8 s

/-- `RES 7,C` (rule R292). -/
def execRes7C (s : State) : Result := resStep 7 (.reg .c) 8 s

/-- `RES 7,D` (rule R292). -/
def execRes7D (s : State) : Result := resStep 7 (.reg .d) 8 s

/-- `RES 7,E` (rule R292). -/
def execRes7E (s : State) : Result := resStep 7 (.reg .e) 8 s

/-- `RES 7,H` (rule R292). -/
def execRes7H (s : State) : Result := resStep 7 (.reg .h) 8 s

/-- `RES 7,L` (rule R292). -/
def execRes7L (s : State) : Result := resStep 7 (.reg .l) 8 s

/-- `RES 7,(HL)` (rule R293). -/
def execRes7AtHL (s : State) : Result := resStep 7 .atHL 16 s

/-- `RES 7,A` (rule R292). -/
def execRes7A (s : State) : Result := resStep 7 (.reg .a) 8 s

/-- `SET 0,B` (rule R294). -/
def execSet0B (s : State) : Result := setStep 0 (.reg .b) 8 s

/-- `SET 0,C` (rule R294). -/
def execSet0C (s : State) : Result := setStep 0 (.reg .c) 8 s

/-- `SET 0,D` (rule R294). -/
def execSet0D (s : State) : Result := setStep 0 (.reg .d) 8 s

/-- `SET 0,E` (rule R294). -/
def execSet0E (s : State) : Result := setStep 0 (.reg .e) 8 s

/-- `SET 0,H` (rule R294). -/
def execSet0H (s : State) : Result := setStep 0 (.reg .h) 8 s

/-- `SET 0,L` (rule R294). -/
def execSet0L (s : State) : Result := setStep 0 (.reg .l) 8 s

/-- `SET 0,(HL)` (rule R295). -/
def execSet0AtHL (s : State) : Result := setStep 0 .atHL 16 s

/-- `SET 0,A` (rule R294). -/
def execSet0A (s : State) : Result := setStep 0 (.reg .a) 8 s

/-- `SET 1,B` (rule R294). -/
def execSet1B (s : State) : Result := setStep 1 (.reg .b) 8 s

/-- `SET 1,C` (rule R294). -/
def execSet1C (s : State) : Result := setStep 1 (.reg .c) 8 s

/-- `SET 1,D` (rule R294). -/
def execSet1D (s : State) : Result := setStep 1 (.reg .d) 8 s

/-- `SET 1,E` (rule R294). -/
def execSet1E (s : State) : Result := setStep 1 (.reg .e) 8 s

/-- `SET 1,H` (rule R294). -/
def execSet1H (s : State) : Result := setStep 1 (.reg .h) 8 s

/-- `SET 1,L` (rule R294). -/
def execSet1L (s : State) : Result := setStep 1 (.reg .l) 8 s

/-- `SET 1,(HL)` (rule R295). -/
def execSet1AtHL (s : State) : Result := setStep 1 .atHL 16 s

/-- `SET 1,A` (rule R294). -/
def execSet1A (s : State) : Result := setStep 1 (.reg .a) 8 s

/-- `SET 2,B` (rule R294). -/
def execSet2B (s : State) : Result := setStep 2 (.reg .b) 8 s

/-- `SET 2,C` (rule R294). -/
def execSet2C (s : State) : Result := setStep 2 (.reg .c) 8 s

/-- `SET 2,D` (rule R294). -/
def execSet2D (s : State) : Result := setStep 2 (.reg .d) 8 s

/-- `SET 2,E` (rule R294). -/
def execSet2E (s : State) : Result := setStep 2 (.reg .e) 8 s

/-- `SET 2,H` (rule R294). -/
def execSet2H (s : State) : Result := setStep 2 (.reg .h) 8 s

/-- `SET 2,L` (rule R294). -/
def execSet2L (s : State) : Result := setStep 2 (.reg .l) 8 s

/-- `SET 2,(HL)` (rule R295). -/
def execSet2AtHL (s : State) : Result := setStep 2 .atHL 16 s

/-- `SET 2,A` (rule R294). -/
def execSet2A (s : State) : Result := setStep 2 (.reg .a) 8 s

/-- `SET 3,B` (rule R294). -/
def execSet3B (s : State) : Result := setStep 3 (.reg .b) 8 s

/-- `SET 3,C` (rule R294). -/
def execSet3C (s : State) : Result := setStep 3 (.reg .c) 8 s

/-- `SET 3,D` (rule R294). -/
def execSet3D (s : State) : Result := setStep 3 (.reg .d) 8 s

/-- `SET 3,E` (rule R294). -/
def execSet3E (s : State) : Result := setStep 3 (.reg .e) 8 s

/-- `SET 3,H` (rule R294). -/
def execSet3H (s : State) : Result := setStep 3 (.reg .h) 8 s

/-- `SET 3,L` (rule R294). -/
def execSet3L (s : State) : Result := setStep 3 (.reg .l) 8 s

/-- `SET 3,(HL)` (rule R295). -/
def execSet3AtHL (s : State) : Result := setStep 3 .atHL 16 s

/-- `SET 3,A` (rule R294). -/
def execSet3A (s : State) : Result := setStep 3 (.reg .a) 8 s

/-- `SET 4,B` (rule R294). -/
def execSet4B (s : State) : Result := setStep 4 (.reg .b) 8 s

/-- `SET 4,C` (rule R294). -/
def execSet4C (s : State) : Result := setStep 4 (.reg .c) 8 s

/-- `SET 4,D` (rule R294). -/
def execSet4D (s : State) : Result := setStep 4 (.reg .d) 8 s

/-- `SET 4,E` (rule R294). -/
def execSet4E (s : State) : Result := setStep 4 (.reg .e) 8 s

/-- `SET 4,H` (rule R294). -/
def execSet4H (s : State) : Result := setStep 4 (.reg .h) 8 s

/-- `SET 4,L` (rule R294). -/
def execSet4L (s : State) : Result := setStep 4 (.reg .l) 8 s

/-- `SET 4,(HL)` (rule R295). -/
def execSet4AtHL (s : State) : Result := setStep 4 .atHL 16 s

/-- `SET 4,A` (rule R294). -/
def execSet4A (s : State) : Result := setStep 4 (.reg .a) 8 s

/-- `SET 5,B` (rule R294). -/
def execSet5B (s : State) : Result := setStep 5 (.reg .b) 8 s

/-- `SET 5,C` (rule R294). -/
def execSet5C (s : State) : Result := setStep 5 (.reg .c) 8 s

/-- `SET 5,D` (rule R294). -/
def execSet5D (s : State) : Result := setStep 5 (.reg .d) 8 s

/-- `SET 5,E` (rule R294). -/
def execSet5E (s : State) : Result := setStep 5 (.reg .e) 8 s

/-- `SET 5,H` (rule R294). -/
def execSet5H (s : State) : Result := setStep 5 (.reg .h) 8 s

/-- `SET 5,L` (rule R294). -/
def execSet5L (s : State) : Result := setStep 5 (.reg .l) 8 s

/-- `SET 5,(HL)` (rule R295). -/
def execSet5AtHL (s : State) : Result := setStep 5 .atHL 16 s

/-- `SET 5,A` (rule R294). -/
def execSet5A (s : State) : Result := setStep 5 (.reg .a) 8 s

/-- `SET 6,B` (rule R294). -/
def execSet6B (s : State) : Result := setStep 6 (.reg .b) 8 s

/-- `SET 6,C` (rule R294). -/
def execSet6C (s : State) : Result := setStep 6 (.reg .c) 8 s

/-- `SET 6,D` (rule R294). -/
def execSet6D (s : State) : Result := setStep 6 (.reg .d) 8 s

/-- `SET 6,E` (rule R294). -/
def execSet6E (s : State) : Result := setStep 6 (.reg .e) 8 s

/-- `SET 6,H` (rule R294). -/
def execSet6H (s : State) : Result := setStep 6 (.reg .h) 8 s

/-- `SET 6,L` (rule R294). -/
def execSet6L (s : State) : Result := setStep 6 (.reg .l) 8 s

/-- `SET 6,(HL)` (rule R295). -/
def execSet6AtHL (s : State) : Result := setStep 6 .atHL 16 s

/-- `SET 6,A` (rule R294). -/
def execSet6A (s : State) : Result := setStep 6 (.reg .a) 8 s

/-- `SET 7,B` (rule R294). -/
def execSet7B (s : State) : Result := setStep 7 (.reg .b) 8 s

/-- `SET 7,C` (rule R294). -/
def execSet7C (s : State) : Result := setStep 7 (.reg .c) 8 s

/-- `SET 7,D` (rule R294). -/
def execSet7D (s : State) : Result := setStep 7 (.reg .d) 8 s

/-- `SET 7,E` (rule R294). -/
def execSet7E (s : State) : Result := setStep 7 (.reg .e) 8 s

/-- `SET 7,H` (rule R294). -/
def execSet7H (s : State) : Result := setStep 7 (.reg .h) 8 s

/-- `SET 7,L` (rule R294). -/
def execSet7L (s : State) : Result := setStep 7 (.reg .l) 8 s

/-- `SET 7,(HL)` (rule R295). -/
def execSet7AtHL (s : State) : Result := setStep 7 .atHL 16 s

/-- `SET 7,A` (rule R294). -/
def execSet7A (s : State) : Result := setStep 7 (.reg .a) 8 s

end Sys2Proof.Machine
end

