-- ==== Sys2Proof/Machine/Control.lean ====
section
/-! DEFINITION. Control transfer (46_control.md, rules R299 to R310). -/

namespace Sys2Proof.Machine

/-- `JP a16` (rule R300). -/
def jpStep (m1 m2 : Byte) : State → Result :=
  instrStep 3 16 0 fun s _ => .ok { st := s, target := some (s.imm16 m1 m2) }

/-- `JP cc,a16` (rule R301). -/
def jpIfStep (cc : Cond) (m1 m2 : Byte) : State → Result :=
  instrStep 3 16 12 fun s _ =>
    if s.cond cc then .ok { st := s, target := some (s.imm16 m1 m2) } else .ok { st := s, taken := false }

/-- `JP HL` (rule R302). -/
def jpHLStep : State → Result := instrStep 1 4 0 fun s _ => .ok { st := s, target := some s.hl }

/-- `JR r8` (rule R303): relative to `pc_next`. -/
def jrStep (n8 : Byte) : State → Result :=
  instrStep 2 12 0 fun s next => .ok { st := s, target := some (addSigned next n8) }

/-- `JR cc,r8` (rule R304). -/
def jrIfStep (cc : Cond) (n8 : Byte) : State → Result :=
  instrStep 2 12 8 fun s next =>
    if s.cond cc then .ok { st := s, target := some (addSigned next n8) } else .ok { st := s, taken := false }

/-- Push the return address and go to the target (rules R305, R306, R310). -/
def callRule (s : State) (next target : Word) : Except FaultKind Effect :=
  match s.push16 next with
  | .error k => .error k
  | .ok t => .ok { st := t, target := some target }

/-- `CALL a16` (rule R305). -/
def callStep (m1 m2 : Byte) : State → Result := instrStep 3 24 0 fun s next => callRule s next (s.imm16 m1 m2)

/-- `CALL cc,a16` (rule R306). -/
def callIfStep (cc : Cond) (m1 m2 : Byte) : State → Result :=
  instrStep 3 24 12 fun s next =>
    if s.cond cc then callRule s next (s.imm16 m1 m2) else .ok { st := s, taken := false }

/-- Pop PC (rules R307, R308). -/
def retRule (s : State) : Except FaultKind Effect :=
  match s.pop16 with
  | .error k => .error k
  | .ok (v, t) => .ok { st := t, target := some v }

/-- `RET` (rule R307). -/
def retStep : State → Result := instrStep 1 16 0 fun s _ => retRule s

/-- `RET cc` (rule R308). -/
def retIfStep (cc : Cond) : State → Result :=
  instrStep 1 20 8 fun s _ => if s.cond cc then retRule s else .ok { st := s, taken := false }

/-- `RETI` (rule R309). -/
def retiStep : State → Result := instrStep 1 16 0 fun s _ => returnFromInterrupt s

/-- `RST n` for any n (rule R310): only a multiple of 8 up to 0x38 is a target, any other raises InvalidOperand. No
row of the table has another (rule R119). -/
def rstStep (n : Nat) : State → Result :=
  instrStep 1 16 0 fun s next =>
    if n ∈ [0x00, 0x08, 0x10, 0x18, 0x20, 0x28, 0x30, 0x38] then callRule s next (.ofNat 16 n)
    else .error .invalidOperand

/-! ## The meanings, one for each row -/

/-- `JR r8` (rule R303). -/
def execJrR8 (n8 : Byte) (s : State) : Result := jrStep n8 s

/-- `JR NZ,r8` (rule R304). -/
def execJrNZR8 (n8 : Byte) (s : State) : Result := jrIfStep .nz n8 s

/-- `JR Z,r8` (rule R304). -/
def execJrZR8 (n8 : Byte) (s : State) : Result := jrIfStep .z n8 s

/-- `JR NC,r8` (rule R304). -/
def execJrNCR8 (n8 : Byte) (s : State) : Result := jrIfStep .nc n8 s

/-- `JR C,r8` (rule R304). -/
def execJrCR8 (n8 : Byte) (s : State) : Result := jrIfStep .c n8 s

/-- `RET NZ` (rule R308). -/
def execRetNZ (s : State) : Result := retIfStep .nz s

/-- `JP NZ,a16` (rule R301). -/
def execJpNZA16 (m1 m2 : Byte) (s : State) : Result := jpIfStep .nz m1 m2 s

/-- `JP a16` (rule R300). -/
def execJpA16 (m1 m2 : Byte) (s : State) : Result := jpStep m1 m2 s

/-- `CALL NZ,a16` (rule R306). -/
def execCallNZA16 (m1 m2 : Byte) (s : State) : Result := callIfStep .nz m1 m2 s

/-- `RST 00H` (rule R310). -/
def execRst00 (s : State) : Result := rstStep 0x00 s

/-- `RET Z` (rule R308). -/
def execRetZ (s : State) : Result := retIfStep .z s

/-- `RET` (rule R307). -/
def execRet (s : State) : Result := retStep s

/-- `JP Z,a16` (rule R301). -/
def execJpZA16 (m1 m2 : Byte) (s : State) : Result := jpIfStep .z m1 m2 s

/-- `CALL Z,a16` (rule R306). -/
def execCallZA16 (m1 m2 : Byte) (s : State) : Result := callIfStep .z m1 m2 s

/-- `CALL a16` (rule R305). -/
def execCallA16 (m1 m2 : Byte) (s : State) : Result := callStep m1 m2 s

/-- `RST 08H` (rule R310). -/
def execRst08 (s : State) : Result := rstStep 0x08 s

/-- `RET NC` (rule R308). -/
def execRetNC (s : State) : Result := retIfStep .nc s

/-- `JP NC,a16` (rule R301). -/
def execJpNCA16 (m1 m2 : Byte) (s : State) : Result := jpIfStep .nc m1 m2 s

/-- `CALL NC,a16` (rule R306). -/
def execCallNCA16 (m1 m2 : Byte) (s : State) : Result := callIfStep .nc m1 m2 s

/-- `RST 10H` (rule R310). -/
def execRst10 (s : State) : Result := rstStep 0x10 s

/-- `RET C` (rule R308). -/
def execRetC (s : State) : Result := retIfStep .c s

/-- `RETI` (rule R309). -/
def execReti (s : State) : Result := retiStep s

/-- `JP C,a16` (rule R301). -/
def execJpCA16 (m1 m2 : Byte) (s : State) : Result := jpIfStep .c m1 m2 s

/-- `CALL C,a16` (rule R306). -/
def execCallCA16 (m1 m2 : Byte) (s : State) : Result := callIfStep .c m1 m2 s

/-- `RST 18H` (rule R310). -/
def execRst18 (s : State) : Result := rstStep 0x18 s

/-- `RST 20H` (rule R310). -/
def execRst20 (s : State) : Result := rstStep 0x20 s

/-- `JP HL` (rule R302). -/
def execJpHL (s : State) : Result := jpHLStep s

/-- `RST 28H` (rule R310). -/
def execRst28 (s : State) : Result := rstStep 0x28 s

/-- `RST 30H` (rule R310). -/
def execRst30 (s : State) : Result := rstStep 0x30 s

/-- `RST 38H` (rule R310). -/
def execRst38 (s : State) : Result := rstStep 0x38 s

end Sys2Proof.Machine
end

