-- ==== Sys2Proof/Machine/RotateShift.lean ====
section
/-! DEFINITION. Rotates, shifts and SWAP (44_rotate_shift.md, rules R269 to R289). -/

namespace Sys2Proof.Machine

/-- `RLCA`, `RRCA`, `RLA` and `RRA`: the shift unit on A with Z cleared (rules R270 to R273). -/
def rotateAStep (op : ShiftOp) : State → Result :=
  plainStep 1 4 fun s =>
    let r := shiftCompute op s.a s.flagC
    ({ s with a := r.1 } : State).setFlags false false false r.2

/-- A CB rotate, shift or SWAP of an r8 operand, with Z from the result (rules R274 to R289). -/
def shiftStep (op : ShiftOp) (o : Operand8) (cost : Nat) : State → Result :=
  plainStep 2 cost fun s =>
    let r := shiftCompute op (s.operand o) s.flagC
    (s.setOperand o r.1).setFlags (r.1 == 0#8) false false r.2

/-! ## The meanings, one for each row -/

/-- `RLCA` (rule R270). -/
def execRlca (s : State) : Result := rotateAStep .rlc s

/-- `RRCA` (rule R271). -/
def execRrca (s : State) : Result := rotateAStep .rrc s

/-- `RLA` (rule R272). -/
def execRla (s : State) : Result := rotateAStep .rl s

/-- `RRA` (rule R273). -/
def execRra (s : State) : Result := rotateAStep .rr s

/-- `RLC B` (rule R274). -/
def execRlcB (s : State) : Result := shiftStep .rlc (.reg .b) 8 s

/-- `RLC C` (rule R274). -/
def execRlcC (s : State) : Result := shiftStep .rlc (.reg .c) 8 s

/-- `RLC D` (rule R274). -/
def execRlcD (s : State) : Result := shiftStep .rlc (.reg .d) 8 s

/-- `RLC E` (rule R274). -/
def execRlcE (s : State) : Result := shiftStep .rlc (.reg .e) 8 s

/-- `RLC H` (rule R274). -/
def execRlcH (s : State) : Result := shiftStep .rlc (.reg .h) 8 s

/-- `RLC L` (rule R274). -/
def execRlcL (s : State) : Result := shiftStep .rlc (.reg .l) 8 s

/-- `RLC (HL)` (rule R275). -/
def execRlcAtHL (s : State) : Result := shiftStep .rlc .atHL 16 s

/-- `RLC A` (rule R274). -/
def execRlcA (s : State) : Result := shiftStep .rlc (.reg .a) 8 s

/-- `RRC B` (rule R276). -/
def execRrcB (s : State) : Result := shiftStep .rrc (.reg .b) 8 s

/-- `RRC C` (rule R276). -/
def execRrcC (s : State) : Result := shiftStep .rrc (.reg .c) 8 s

/-- `RRC D` (rule R276). -/
def execRrcD (s : State) : Result := shiftStep .rrc (.reg .d) 8 s

/-- `RRC E` (rule R276). -/
def execRrcE (s : State) : Result := shiftStep .rrc (.reg .e) 8 s

/-- `RRC H` (rule R276). -/
def execRrcH (s : State) : Result := shiftStep .rrc (.reg .h) 8 s

/-- `RRC L` (rule R276). -/
def execRrcL (s : State) : Result := shiftStep .rrc (.reg .l) 8 s

/-- `RRC (HL)` (rule R277). -/
def execRrcAtHL (s : State) : Result := shiftStep .rrc .atHL 16 s

/-- `RRC A` (rule R276). -/
def execRrcA (s : State) : Result := shiftStep .rrc (.reg .a) 8 s

/-- `RL B` (rule R278). -/
def execRlB (s : State) : Result := shiftStep .rl (.reg .b) 8 s

/-- `RL C` (rule R278). -/
def execRlC (s : State) : Result := shiftStep .rl (.reg .c) 8 s

/-- `RL D` (rule R278). -/
def execRlD (s : State) : Result := shiftStep .rl (.reg .d) 8 s

/-- `RL E` (rule R278). -/
def execRlE (s : State) : Result := shiftStep .rl (.reg .e) 8 s

/-- `RL H` (rule R278). -/
def execRlH (s : State) : Result := shiftStep .rl (.reg .h) 8 s

/-- `RL L` (rule R278). -/
def execRlL (s : State) : Result := shiftStep .rl (.reg .l) 8 s

/-- `RL (HL)` (rule R279). -/
def execRlAtHL (s : State) : Result := shiftStep .rl .atHL 16 s

/-- `RL A` (rule R278). -/
def execRlA (s : State) : Result := shiftStep .rl (.reg .a) 8 s

/-- `RR B` (rule R280). -/
def execRrB (s : State) : Result := shiftStep .rr (.reg .b) 8 s

/-- `RR C` (rule R280). -/
def execRrC (s : State) : Result := shiftStep .rr (.reg .c) 8 s

/-- `RR D` (rule R280). -/
def execRrD (s : State) : Result := shiftStep .rr (.reg .d) 8 s

/-- `RR E` (rule R280). -/
def execRrE (s : State) : Result := shiftStep .rr (.reg .e) 8 s

/-- `RR H` (rule R280). -/
def execRrH (s : State) : Result := shiftStep .rr (.reg .h) 8 s

/-- `RR L` (rule R280). -/
def execRrL (s : State) : Result := shiftStep .rr (.reg .l) 8 s

/-- `RR (HL)` (rule R281). -/
def execRrAtHL (s : State) : Result := shiftStep .rr .atHL 16 s

/-- `RR A` (rule R280). -/
def execRrA (s : State) : Result := shiftStep .rr (.reg .a) 8 s

/-- `SLA B` (rule R282). -/
def execSlaB (s : State) : Result := shiftStep .sla (.reg .b) 8 s

/-- `SLA C` (rule R282). -/
def execSlaC (s : State) : Result := shiftStep .sla (.reg .c) 8 s

/-- `SLA D` (rule R282). -/
def execSlaD (s : State) : Result := shiftStep .sla (.reg .d) 8 s

/-- `SLA E` (rule R282). -/
def execSlaE (s : State) : Result := shiftStep .sla (.reg .e) 8 s

/-- `SLA H` (rule R282). -/
def execSlaH (s : State) : Result := shiftStep .sla (.reg .h) 8 s

/-- `SLA L` (rule R282). -/
def execSlaL (s : State) : Result := shiftStep .sla (.reg .l) 8 s

/-- `SLA (HL)` (rule R283). -/
def execSlaAtHL (s : State) : Result := shiftStep .sla .atHL 16 s

/-- `SLA A` (rule R282). -/
def execSlaA (s : State) : Result := shiftStep .sla (.reg .a) 8 s

/-- `SRA B` (rule R284). -/
def execSraB (s : State) : Result := shiftStep .sra (.reg .b) 8 s

/-- `SRA C` (rule R284). -/
def execSraC (s : State) : Result := shiftStep .sra (.reg .c) 8 s

/-- `SRA D` (rule R284). -/
def execSraD (s : State) : Result := shiftStep .sra (.reg .d) 8 s

/-- `SRA E` (rule R284). -/
def execSraE (s : State) : Result := shiftStep .sra (.reg .e) 8 s

/-- `SRA H` (rule R284). -/
def execSraH (s : State) : Result := shiftStep .sra (.reg .h) 8 s

/-- `SRA L` (rule R284). -/
def execSraL (s : State) : Result := shiftStep .sra (.reg .l) 8 s

/-- `SRA (HL)` (rule R285). -/
def execSraAtHL (s : State) : Result := shiftStep .sra .atHL 16 s

/-- `SRA A` (rule R284). -/
def execSraA (s : State) : Result := shiftStep .sra (.reg .a) 8 s

/-- `SWAP B` (rule R286). -/
def execSwapB (s : State) : Result := shiftStep .swap (.reg .b) 8 s

/-- `SWAP C` (rule R286). -/
def execSwapC (s : State) : Result := shiftStep .swap (.reg .c) 8 s

/-- `SWAP D` (rule R286). -/
def execSwapD (s : State) : Result := shiftStep .swap (.reg .d) 8 s

/-- `SWAP E` (rule R286). -/
def execSwapE (s : State) : Result := shiftStep .swap (.reg .e) 8 s

/-- `SWAP H` (rule R286). -/
def execSwapH (s : State) : Result := shiftStep .swap (.reg .h) 8 s

/-- `SWAP L` (rule R286). -/
def execSwapL (s : State) : Result := shiftStep .swap (.reg .l) 8 s

/-- `SWAP (HL)` (rule R287). -/
def execSwapAtHL (s : State) : Result := shiftStep .swap .atHL 16 s

/-- `SWAP A` (rule R286). -/
def execSwapA (s : State) : Result := shiftStep .swap (.reg .a) 8 s

/-- `SRL B` (rule R288). -/
def execSrlB (s : State) : Result := shiftStep .srl (.reg .b) 8 s

/-- `SRL C` (rule R288). -/
def execSrlC (s : State) : Result := shiftStep .srl (.reg .c) 8 s

/-- `SRL D` (rule R288). -/
def execSrlD (s : State) : Result := shiftStep .srl (.reg .d) 8 s

/-- `SRL E` (rule R288). -/
def execSrlE (s : State) : Result := shiftStep .srl (.reg .e) 8 s

/-- `SRL H` (rule R288). -/
def execSrlH (s : State) : Result := shiftStep .srl (.reg .h) 8 s

/-- `SRL L` (rule R288). -/
def execSrlL (s : State) : Result := shiftStep .srl (.reg .l) 8 s

/-- `SRL (HL)` (rule R289). -/
def execSrlAtHL (s : State) : Result := shiftStep .srl .atHL 16 s

/-- `SRL A` (rule R288). -/
def execSrlA (s : State) : Result := shiftStep .srl (.reg .a) 8 s

end Sys2Proof.Machine
end

