-- ==== Sys2Proof/Machine/CpuControl.lean ====
section
/-! DEFINITION. CPU control, the prefix row and the illegal opcodes (47_cpu_control.md, rules R320 to R326). -/

namespace Sys2Proof.Machine

/-- `NOP` (rule R320). -/
def nopStep : State → Result := plainStep 1 4 fun s => s

/-- `HALT` (rule R321), with the HALT bug under its parameter. -/
def haltStep : State → Result :=
  plainStep 1 4 fun s =>
    if s.cfg.haltBug && !s.ime && s.pending != 0#8 then { s with haltbug := true } else { s with halted := true }

/-- `STOP` (rule R322): the second byte has no effect. -/
def stopStep (_pad : Byte) : State → Result := plainStep 2 4 fun s => { s with stopped := true }

/-- `DI` (rule R323): it also cancels a pending enable. -/
def diStep : State → Result := plainStep 1 4 fun s => { s with ime := false, eiArmed := false }

/-- `EI` (rule R324): it sets `arm_ei`. -/
def eiStep : State → Result := instrStep 1 4 0 fun s _ => .ok { st := s, armEI := true }

/-- Total cycles of a CB read-modify-write (30_encoding.md rule R123). -/
def cbCost : Operand8 → Nat
  | .reg _ => 8
  | .atHL => 16

/-- Total cycles of a CB `BIT` (rule R123). -/
def cbBitCost : Operand8 → Nat
  | .reg _ => 8
  | .atHL => 12

/-- The prefix byte with the byte after it (rule R325): the CB-table rule of the second byte executes, read from
its fields as the CB table is laid out (30_encoding.md rule R118). -/
def prefixStep (op : Byte) : State → Result :=
  let o := Operand8.ofField (fieldZ op)
  match fieldX op with
  | 0 => shiftStep (.ofField (fieldY op)) o (cbCost o)
  | 1 => bitStep (fieldY op) o (cbBitCost o)
  | 2 => resStep (fieldY op) o (cbCost o)
  | _ => setStep (fieldY op) o (cbCost o)

/-- An illegal opcode (rule R326): InvalidOperand, whatever the state. -/
def illegalStep : State → Result := instrStep 1 0 0 fun _ _ => .error .invalidOperand

/-! ## The meanings, one for each row -/

/-- `NOP` (rule R320). -/
def execNop (s : State) : Result := nopStep s

/-- `STOP` (rule R322). -/
def execStop (pad : Byte) (s : State) : Result := stopStep pad s

/-- `HALT` (rule R321). -/
def execHalt (s : State) : Result := haltStep s

/-- The prefix row (rule R325). -/
def execPrefixCB (op : Byte) (s : State) : Result := prefixStep op s

/-- Opcode 0xD3, illegal (rule R326). -/
def execIllegalD3 (s : State) : Result := illegalStep s

/-- Opcode 0xDB, illegal (rule R326). -/
def execIllegalDB (s : State) : Result := illegalStep s

/-- Opcode 0xDD, illegal (rule R326). -/
def execIllegalDD (s : State) : Result := illegalStep s

/-- Opcode 0xE3, illegal (rule R326). -/
def execIllegalE3 (s : State) : Result := illegalStep s

/-- Opcode 0xE4, illegal (rule R326). -/
def execIllegalE4 (s : State) : Result := illegalStep s

/-- Opcode 0xEB, illegal (rule R326). -/
def execIllegalEB (s : State) : Result := illegalStep s

/-- Opcode 0xEC, illegal (rule R326). -/
def execIllegalEC (s : State) : Result := illegalStep s

/-- Opcode 0xED, illegal (rule R326). -/
def execIllegalED (s : State) : Result := illegalStep s

/-- `DI` (rule R323). -/
def execDi (s : State) : Result := diStep s

/-- Opcode 0xF4, illegal (rule R326). -/
def execIllegalF4 (s : State) : Result := illegalStep s

/-- `EI` (rule R324). -/
def execEi (s : State) : Result := eiStep s

/-- Opcode 0xFC, illegal (rule R326). -/
def execIllegalFC (s : State) : Result := illegalStep s

/-- Opcode 0xFD, illegal (rule R326). -/
def execIllegalFD (s : State) : Result := illegalStep s

end Sys2Proof.Machine
end

