-- ==== Sys2Proof/Machine/Load16.lean ====
section
/-! DEFINITION. The 16-bit loads and the stack (41_load16.md, rules R220 to R227). -/

namespace Sys2Proof.Machine

/-- `LD rr,d16` (rule R220). -/
def ldPairStep (p : RR) (m1 m2 : Byte) : State → Result := plainStep 3 12 fun s => s.setPair p (s.imm16 m1 m2)

/-- `LD (a16),SP` (rule R221). -/
def storeSPStep (m1 m2 : Byte) : State → Result :=
  instrStep 3 20 0 fun s _ =>
    match s.writeWordUp (s.imm16 m1 m2) s.sp with
    | .error k => .error k
    | .ok t => .ok { st := t }

/-- `LD SP,HL` (rule R222). -/
def ldSPHLStep : State → Result := plainStep 1 8 fun s => { s with sp := s.hl }

/-- `LD HL,SP+r8` (rule R223). -/
def ldHLSPStep (n8 : Byte) : State → Result :=
  plainStep 2 12 fun s =>
    let o := spaddCompute s.sp n8
    (s.setFlags false false o.h o.c).setHL o.res

/-- `PUSH` of a pair (rules R224, R225). -/
def pushStep (p : QQ) : State → Result :=
  instrStep 1 16 0 fun s _ =>
    match s.push16 (s.stackPair p) with
    | .error k => .error k
    | .ok t => .ok { st := t }

/-- `POP` of a pair (rules R226, R227). -/
def popStep (p : QQ) : State → Result :=
  instrStep 1 12 0 fun s _ =>
    match s.pop16 with
    | .error k => .error k
    | .ok (v, t) => .ok { st := t.setStackPair p v }

/-! ## The meanings, one for each row -/

/-- `LD BC,d16` (rule R220). -/
def execLdBCD16 (m1 m2 : Byte) (s : State) : Result := ldPairStep .bc m1 m2 s

/-- `LD (a16),SP` (rule R221). -/
def execLdAtA16SP (m1 m2 : Byte) (s : State) : Result := storeSPStep m1 m2 s

/-- `LD DE,d16` (rule R220). -/
def execLdDED16 (m1 m2 : Byte) (s : State) : Result := ldPairStep .de m1 m2 s

/-- `LD HL,d16` (rule R220). -/
def execLdHLD16 (m1 m2 : Byte) (s : State) : Result := ldPairStep .hl m1 m2 s

/-- `LD SP,d16` (rule R220). -/
def execLdSPD16 (m1 m2 : Byte) (s : State) : Result := ldPairStep .sp m1 m2 s

/-- `POP BC` (rule R226). -/
def execPopBC (s : State) : Result := popStep .bc s

/-- `PUSH BC` (rule R224). -/
def execPushBC (s : State) : Result := pushStep .bc s

/-- `POP DE` (rule R226). -/
def execPopDE (s : State) : Result := popStep .de s

/-- `PUSH DE` (rule R224). -/
def execPushDE (s : State) : Result := pushStep .de s

/-- `POP HL` (rule R226). -/
def execPopHL (s : State) : Result := popStep .hl s

/-- `PUSH HL` (rule R224). -/
def execPushHL (s : State) : Result := pushStep .hl s

/-- `POP AF` (rule R227). -/
def execPopAF (s : State) : Result := popStep .af s

/-- `PUSH AF` (rule R225). -/
def execPushAF (s : State) : Result := pushStep .af s

/-- `LD HL,SP+r8` (rule R223). -/
def execLdHLSPR8 (n8 : Byte) (s : State) : Result := ldHLSPStep n8 s

/-- `LD SP,HL` (rule R222). -/
def execLdSPHL (s : State) : Result := ldSPHLStep s

end Sys2Proof.Machine
end

