-- ==== Sys2Proof/Machine/Load8.lean ====
section
/-! DEFINITION. The 8-bit loads (40_load8.md, rules R200 to R218). -/

namespace Sys2Proof.Machine

/-- `LD` between two r8 operands (rules R200, R202, R203). The source is read before the destination is written. -/
def ldStep (dst src : Operand8) (cost : Nat) : State → Result := plainStep 1 cost fun s => s.setOperand dst (s.operand src)

/-- `LD` of an immediate byte (rules R201, R204). -/
def ldImmStep (dst : Operand8) (n8 : Byte) (cost : Nat) : State → Result := plainStep 2 cost fun s => s.setOperand dst n8

/-- A from the byte at an address (rules R205, R206, R209, R211, R213). -/
def loadAStep (len cost : Nat) (address : State → Word) : State → Result :=
  plainStep len cost fun s => { s with a := s.readByte (address s) }

/-- A to the byte at an address (rules R207, R208, R210, R212, R214). -/
def storeAStep (len cost : Nat) (address : State → Word) : State → Result :=
  plainStep len cost fun s => s.writeByte (address s) s.a

/-- A from the byte at HL, then HL moved by `delta` mod 2^16 (rules R217, R218). -/
def loadAMoveStep (delta : Word) : State → Result :=
  plainStep 1 8 fun s => ({ s with a := s.readByte s.hl } : State).setHL (s.hl + delta)

/-- A to the byte at HL, then HL moved by `delta` mod 2^16 (rules R215, R216). -/
def storeAMoveStep (delta : Word) : State → Result :=
  plainStep 1 8 fun s => (s.writeByte s.hl s.a).setHL (s.hl + delta)

/-! ## The meanings, one for each row -/

/-- `LD (BC),A` (rule R207). -/
def execLdAtBCA (s : State) : Result := storeAStep 1 8 State.bc s

/-- `LD B,d8` (rule R201). -/
def execLdBD8 (n8 : Byte) (s : State) : Result := ldImmStep (.reg .b) n8 8 s

/-- `LD A,(BC)` (rule R205). -/
def execLdAAtBC (s : State) : Result := loadAStep 1 8 State.bc s

/-- `LD C,d8` (rule R201). -/
def execLdCD8 (n8 : Byte) (s : State) : Result := ldImmStep (.reg .c) n8 8 s

/-- `LD (DE),A` (rule R208). -/
def execLdAtDEA (s : State) : Result := storeAStep 1 8 State.de s

/-- `LD D,d8` (rule R201). -/
def execLdDD8 (n8 : Byte) (s : State) : Result := ldImmStep (.reg .d) n8 8 s

/-- `LD A,(DE)` (rule R206). -/
def execLdAAtDE (s : State) : Result := loadAStep 1 8 State.de s

/-- `LD E,d8` (rule R201). -/
def execLdED8 (n8 : Byte) (s : State) : Result := ldImmStep (.reg .e) n8 8 s

/-- `LD (HL+),A` (rule R215). -/
def execLdAtHLIncA (s : State) : Result := storeAMoveStep 1 s

/-- `LD H,d8` (rule R201). -/
def execLdHD8 (n8 : Byte) (s : State) : Result := ldImmStep (.reg .h) n8 8 s

/-- `LD A,(HL+)` (rule R217). -/
def execLdAAtHLInc (s : State) : Result := loadAMoveStep 1 s

/-- `LD L,d8` (rule R201). -/
def execLdLD8 (n8 : Byte) (s : State) : Result := ldImmStep (.reg .l) n8 8 s

/-- `LD (HL-),A` (rule R216). -/
def execLdAtHLDecA (s : State) : Result := storeAMoveStep (-1) s

/-- `LD (HL),d8` (rule R204). -/
def execLdAtHLD8 (n8 : Byte) (s : State) : Result := ldImmStep .atHL n8 12 s

/-- `LD A,(HL-)` (rule R218). -/
def execLdAAtHLDec (s : State) : Result := loadAMoveStep (-1) s

/-- `LD A,d8` (rule R201). -/
def execLdAD8 (n8 : Byte) (s : State) : Result := ldImmStep (.reg .a) n8 8 s

/-- `LD B,B` (rule R200). -/
def execLdBB (s : State) : Result := ldStep (.reg .b) (.reg .b) 4 s

/-- `LD B,C` (rule R200). -/
def execLdBC (s : State) : Result := ldStep (.reg .b) (.reg .c) 4 s

/-- `LD B,D` (rule R200). -/
def execLdBD (s : State) : Result := ldStep (.reg .b) (.reg .d) 4 s

/-- `LD B,E` (rule R200). -/
def execLdBE (s : State) : Result := ldStep (.reg .b) (.reg .e) 4 s

/-- `LD B,H` (rule R200). -/
def execLdBH (s : State) : Result := ldStep (.reg .b) (.reg .h) 4 s

/-- `LD B,L` (rule R200). -/
def execLdBL (s : State) : Result := ldStep (.reg .b) (.reg .l) 4 s

/-- `LD B,(HL)` (rule R202). -/
def execLdBAtHL (s : State) : Result := ldStep (.reg .b) .atHL 8 s

/-- `LD B,A` (rule R200). -/
def execLdBA (s : State) : Result := ldStep (.reg .b) (.reg .a) 4 s

/-- `LD C,B` (rule R200). -/
def execLdCB (s : State) : Result := ldStep (.reg .c) (.reg .b) 4 s

/-- `LD C,C` (rule R200). -/
def execLdCC (s : State) : Result := ldStep (.reg .c) (.reg .c) 4 s

/-- `LD C,D` (rule R200). -/
def execLdCD (s : State) : Result := ldStep (.reg .c) (.reg .d) 4 s

/-- `LD C,E` (rule R200). -/
def execLdCE (s : State) : Result := ldStep (.reg .c) (.reg .e) 4 s

/-- `LD C,H` (rule R200). -/
def execLdCH (s : State) : Result := ldStep (.reg .c) (.reg .h) 4 s

/-- `LD C,L` (rule R200). -/
def execLdCL (s : State) : Result := ldStep (.reg .c) (.reg .l) 4 s

/-- `LD C,(HL)` (rule R202). -/
def execLdCAtHL (s : State) : Result := ldStep (.reg .c) .atHL 8 s

/-- `LD C,A` (rule R200). -/
def execLdCA (s : State) : Result := ldStep (.reg .c) (.reg .a) 4 s

/-- `LD D,B` (rule R200). -/
def execLdDB (s : State) : Result := ldStep (.reg .d) (.reg .b) 4 s

/-- `LD D,C` (rule R200). -/
def execLdDC (s : State) : Result := ldStep (.reg .d) (.reg .c) 4 s

/-- `LD D,D` (rule R200). -/
def execLdDD (s : State) : Result := ldStep (.reg .d) (.reg .d) 4 s

/-- `LD D,E` (rule R200). -/
def execLdDE (s : State) : Result := ldStep (.reg .d) (.reg .e) 4 s

/-- `LD D,H` (rule R200). -/
def execLdDH (s : State) : Result := ldStep (.reg .d) (.reg .h) 4 s

/-- `LD D,L` (rule R200). -/
def execLdDL (s : State) : Result := ldStep (.reg .d) (.reg .l) 4 s

/-- `LD D,(HL)` (rule R202). -/
def execLdDAtHL (s : State) : Result := ldStep (.reg .d) .atHL 8 s

/-- `LD D,A` (rule R200). -/
def execLdDA (s : State) : Result := ldStep (.reg .d) (.reg .a) 4 s

/-- `LD E,B` (rule R200). -/
def execLdEB (s : State) : Result := ldStep (.reg .e) (.reg .b) 4 s

/-- `LD E,C` (rule R200). -/
def execLdEC (s : State) : Result := ldStep (.reg .e) (.reg .c) 4 s

/-- `LD E,D` (rule R200). -/
def execLdED (s : State) : Result := ldStep (.reg .e) (.reg .d) 4 s

/-- `LD E,E` (rule R200). -/
def execLdEE (s : State) : Result := ldStep (.reg .e) (.reg .e) 4 s

/-- `LD E,H` (rule R200). -/
def execLdEH (s : State) : Result := ldStep (.reg .e) (.reg .h) 4 s

/-- `LD E,L` (rule R200). -/
def execLdEL (s : State) : Result := ldStep (.reg .e) (.reg .l) 4 s

/-- `LD E,(HL)` (rule R202). -/
def execLdEAtHL (s : State) : Result := ldStep (.reg .e) .atHL 8 s

/-- `LD E,A` (rule R200). -/
def execLdEA (s : State) : Result := ldStep (.reg .e) (.reg .a) 4 s

/-- `LD H,B` (rule R200). -/
def execLdHB (s : State) : Result := ldStep (.reg .h) (.reg .b) 4 s

/-- `LD H,C` (rule R200). -/
def execLdHC (s : State) : Result := ldStep (.reg .h) (.reg .c) 4 s

/-- `LD H,D` (rule R200). -/
def execLdHD (s : State) : Result := ldStep (.reg .h) (.reg .d) 4 s

/-- `LD H,E` (rule R200). -/
def execLdHE (s : State) : Result := ldStep (.reg .h) (.reg .e) 4 s

/-- `LD H,H` (rule R200). -/
def execLdHH (s : State) : Result := ldStep (.reg .h) (.reg .h) 4 s

/-- `LD H,L` (rule R200). -/
def execLdHL (s : State) : Result := ldStep (.reg .h) (.reg .l) 4 s

/-- `LD H,(HL)` (rule R202). -/
def execLdHAtHL (s : State) : Result := ldStep (.reg .h) .atHL 8 s

/-- `LD H,A` (rule R200). -/
def execLdHA (s : State) : Result := ldStep (.reg .h) (.reg .a) 4 s

/-- `LD L,B` (rule R200). -/
def execLdLB (s : State) : Result := ldStep (.reg .l) (.reg .b) 4 s

/-- `LD L,C` (rule R200). -/
def execLdLC (s : State) : Result := ldStep (.reg .l) (.reg .c) 4 s

/-- `LD L,D` (rule R200). -/
def execLdLD (s : State) : Result := ldStep (.reg .l) (.reg .d) 4 s

/-- `LD L,E` (rule R200). -/
def execLdLE (s : State) : Result := ldStep (.reg .l) (.reg .e) 4 s

/-- `LD L,H` (rule R200). -/
def execLdLH (s : State) : Result := ldStep (.reg .l) (.reg .h) 4 s

/-- `LD L,L` (rule R200). -/
def execLdLL (s : State) : Result := ldStep (.reg .l) (.reg .l) 4 s

/-- `LD L,(HL)` (rule R202). -/
def execLdLAtHL (s : State) : Result := ldStep (.reg .l) .atHL 8 s

/-- `LD L,A` (rule R200). -/
def execLdLA (s : State) : Result := ldStep (.reg .l) (.reg .a) 4 s

/-- `LD (HL),B` (rule R203). -/
def execLdAtHLB (s : State) : Result := ldStep .atHL (.reg .b) 8 s

/-- `LD (HL),C` (rule R203). -/
def execLdAtHLC (s : State) : Result := ldStep .atHL (.reg .c) 8 s

/-- `LD (HL),D` (rule R203). -/
def execLdAtHLD (s : State) : Result := ldStep .atHL (.reg .d) 8 s

/-- `LD (HL),E` (rule R203). -/
def execLdAtHLE (s : State) : Result := ldStep .atHL (.reg .e) 8 s

/-- `LD (HL),H` (rule R203). -/
def execLdAtHLH (s : State) : Result := ldStep .atHL (.reg .h) 8 s

/-- `LD (HL),L` (rule R203). -/
def execLdAtHLL (s : State) : Result := ldStep .atHL (.reg .l) 8 s

/-- `LD (HL),A` (rule R203). -/
def execLdAtHLA (s : State) : Result := ldStep .atHL (.reg .a) 8 s

/-- `LD A,B` (rule R200). -/
def execLdAB (s : State) : Result := ldStep (.reg .a) (.reg .b) 4 s

/-- `LD A,C` (rule R200). -/
def execLdAC (s : State) : Result := ldStep (.reg .a) (.reg .c) 4 s

/-- `LD A,D` (rule R200). -/
def execLdAD (s : State) : Result := ldStep (.reg .a) (.reg .d) 4 s

/-- `LD A,E` (rule R200). -/
def execLdAE (s : State) : Result := ldStep (.reg .a) (.reg .e) 4 s

/-- `LD A,H` (rule R200). -/
def execLdAH (s : State) : Result := ldStep (.reg .a) (.reg .h) 4 s

/-- `LD A,L` (rule R200). -/
def execLdAL (s : State) : Result := ldStep (.reg .a) (.reg .l) 4 s

/-- `LD A,(HL)` (rule R202). -/
def execLdAAtHL (s : State) : Result := ldStep (.reg .a) .atHL 8 s

/-- `LD A,A` (rule R200). -/
def execLdAA (s : State) : Result := ldStep (.reg .a) (.reg .a) 4 s

/-- `LDH (a8),A` (rule R212). -/
def execLdhAtA8A (n8 : Byte) (s : State) : Result := storeAStep 2 12 (fun _ => ioAddress n8) s

/-- `LD (C),A` (rule R214). -/
def execLdAtCA (s : State) : Result := storeAStep 1 8 (fun s => ioAddress s.c) s

/-- `LD (a16),A` (rule R210). -/
def execLdAtA16A (m1 m2 : Byte) (s : State) : Result := storeAStep 3 16 (fun s => s.imm16 m1 m2) s

/-- `LDH A,(a8)` (rule R211). -/
def execLdhAAtA8 (n8 : Byte) (s : State) : Result := loadAStep 2 12 (fun _ => ioAddress n8) s

/-- `LD A,(C)` (rule R213). -/
def execLdAAtC (s : State) : Result := loadAStep 1 8 (fun s => ioAddress s.c) s

/-- `LD A,(a16)` (rule R209). -/
def execLdAAtA16 (m1 m2 : Byte) (s : State) : Result := loadAStep 3 16 (fun s => s.imm16 m1 m2) s

end Sys2Proof.Machine
end

