-- ==== Sys2Proof/Machine/Compositor.lean ====
section
/-! DEFINITION. The pixel compositor, by the per-column functions that define its output (65_ppu.md rules R460 to
R471). It reads memory through `BUS` and changes nothing. Columns, rows and tile addresses are natural numbers. -/

namespace Sys2Proof.Machine

/-! ## The PPU's registers (10_state.md rule R48) -/

/-- LCDC, at 0xFF40. -/
def addrLCDC : Word := 0xFF40#16

/-- STAT, at 0xFF41. -/
def addrSTAT : Word := 0xFF41#16

/-- SCY, at 0xFF42. -/
def addrSCY : Word := 0xFF42#16

/-- SCX, at 0xFF43. -/
def addrSCX : Word := 0xFF43#16

/-- LY, at 0xFF44. -/
def addrLY : Word := 0xFF44#16

/-- LYC, at 0xFF45. -/
def addrLYC : Word := 0xFF45#16

/-- BGP, at 0xFF47. -/
def addrBGP : Word := 0xFF47#16

/-- OBP0, at 0xFF48. -/
def addrOBP0 : Word := 0xFF48#16

/-- OBP1, at 0xFF49. -/
def addrOBP1 : Word := 0xFF49#16

/-- WY, at 0xFF4A. -/
def addrWY : Word := 0xFF4A#16

/-- WX, at 0xFF4B. -/
def addrWX : Word := 0xFF4B#16

/-- The byte at an address computed as a number. -/
def State.byteAt (s : State) (a : Nat) : Byte := s.readByte (.ofNat 16 a)

/-- A register byte as a number. -/
def State.regNat (s : State) (a : Word) : Nat := (s.readByte a).toNat

/-- Bit i of LCDC (10_state.md rule R49). -/
def State.lcdc (s : State) (i : Nat) : Bool := (s.readByte addrLCDC).getLsbD i

/-! ## Pixels -/

/-- Where a pixel's palette comes from (10_state.md rule R56). -/
inductive PaletteSource where
  | background
  | object0
  | object1
deriving DecidableEq, Repr

/-- A pixel before its palette is applied (rule R56); `colorIndex` is 0..3. -/
structure Pixel where
  colorIndex    : Nat
  paletteSource : PaletteSource
deriving DecidableEq, Repr

/-- The colour index of pixel p (0 leftmost) of a tile row: `hi[7-p] * 2 + lo[7-p]` (rule R464). -/
def colourIndex (lo hi : Byte) (p : Nat) : Nat := (hi.getLsbD (7 - p)).toNat * 2 + (lo.getLsbD (7 - p)).toNat

/-- Pixel p of row r of the tile at an address: two bytes a row (rule R464). -/
def tilePixel (s : State) (tile r p : Nat) : Nat :=
  colourIndex (s.byteAt (tile + 2 * r)) (s.byteAt (tile + 2 * r + 1)) p

/-- The address of background or window tile t, by LCDC bit 4 (rule R464). -/
def bgTileAddress (s : State) (t : Byte) : Nat :=
  if s.lcdc 4 then 0x8000 + 16 * t.toNat else (0x9000 + 16 * t.toInt).toNat

/-- The base of a tile map, by a bit of LCDC (10_state.md rule R49). -/
def mapBase (high : Bool) : Nat := if high then 0x9C00 else 0x9800

/-- The colour index at (x, y) of the plane a 32x32 tile map makes (rules R465, R466). -/
def mapPixel (s : State) (base x y : Nat) : Nat :=
  tilePixel s (bgTileAddress s (s.byteAt (base + 32 * (y / 8) + x / 8))) (y % 8) (x % 8)

/-- The background's colour index at a column (rule R465). -/
def backgroundIndex (s : State) (ly c : Nat) : Nat :=
  mapPixel s (mapBase (s.lcdc 3)) ((s.regNat addrSCX + c) % 256) ((s.regNat addrSCY + ly) % 256)

/-- The window is active on the line (rule R466). -/
def windowActive (s : State) (ly : Nat) : Bool :=
  s.lcdc 0 && s.lcdc 5 && decide (s.regNat addrWY ≤ ly) && decide (s.regNat addrWX ≤ 166)

/-- The window covers the column: `c ≥ WX - WX_OFFSET` (rule R466). -/
def windowCovers (s : State) (ly c : Nat) : Bool :=
  windowActive s ly && decide (s.regNat addrWX ≤ c + s.cfg.wxOffset)

/-- The window's colour index at a column it covers (rule R466). -/
def windowIndex (s : State) (ly c : Nat) : Nat :=
  mapPixel s (mapBase (s.lcdc 6)) (c + s.cfg.wxOffset - s.regNat addrWX) (ly - s.regNat addrWY)

/-- `bg_ci`: the background or window colour index, 0 when LCDC bit 0 is 0 (rules R462, R465, R466). -/
def bgIndex (s : State) (ly c : Nat) : Nat :=
  if s.lcdc 0 then (if windowCovers s ly c then windowIndex s ly c else backgroundIndex s ly c) else 0

/-! ## Sprites -/

/-- An OAM entry (10_state.md rules R54, R55). -/
structure Sprite where
  y    : Nat
  x    : Nat
  tile : Byte
  attr : Byte
deriving DecidableEq, Repr

/-- OAM entry i (rule R54). -/
def oamEntry (s : State) (i : Nat) : Sprite where
  y := (s.byteAt (0xFE00 + 4 * i)).toNat
  x := (s.byteAt (0xFE00 + 4 * i + 1)).toNat
  tile := s.byteAt (0xFE00 + 4 * i + 2)
  attr := s.byteAt (0xFE00 + 4 * i + 3)

/-- The sprite height h, by LCDC bit 2 (rule R463). -/
def spriteHeight (s : State) : Nat := if s.lcdc 2 then 16 else 8

/-- `Y - 16 <= ly < Y - 16 + h` (rule R463). -/
def Sprite.onLine (sp : Sprite) (h ly : Nat) : Bool := decide (sp.y ≤ ly + 16) && decide (ly + 16 < sp.y + h)

/-- `spriteList`: the first 10 OAM entries, in OAM order, whose Y range covers the line (rule R463). -/
def spriteList (s : State) (ly : Nat) : List Sprite :=
  (((List.range 40).map (oamEntry s)).filter fun sp => sp.onLine (spriteHeight s) ly).take 10

/-- `0 ≤ c - (X - 8) < 8` (rule R467). -/
def Sprite.covers (sp : Sprite) (c : Nat) : Bool := decide (sp.x ≤ c + 8) && decide (c < sp.x)

/-- `s_ci`: the sprite's colour index at a column it covers, on a line it is on (rule R467). -/
def Sprite.index (s : State) (ly c : Nat) (sp : Sprite) : Nat :=
  let h := spriteHeight s
  let row := if sp.attr.getLsbD 6 then h - 1 - (ly + 16 - sp.y) else ly + 16 - sp.y
  let px := if sp.attr.getLsbD 5 then 7 - (c + 8 - sp.x) else c + 8 - sp.x
  let tile := if h = 16 then sp.tile.toNat / 2 * 2 + row / 8 else sp.tile.toNat
  tilePixel s (0x8000 + 16 * tile) (row % 8) px

/-- The first sprite of a list in the order of X ascending, ties by place in the list (rule R468). -/
def firstByX : List Sprite → Option Sprite
  | [] => none
  | sp :: rest =>
    match firstByX rest with
    | none => some sp
    | some best => if best.x < sp.x then some best else some sp

/-- The sprite pixel at a column, if LCDC bit 1 is on: the first candidate, by X and then OAM index, that is not
transparent (rules R467, R468). -/
def spriteAt (s : State) (ly c : Nat) (sprites : List Sprite) : Option Sprite :=
  if s.lcdc 1 then firstByX (sprites.filter fun sp => sp.covers c && sp.index s ly c != 0) else none

/-! ## Mixing and colour -/

/-- The pixel shown at a column (rule R468). -/
def mixedPixel (s : State) (ly c : Nat) (sprites : List Sprite) : Pixel :=
  let bg := bgIndex s ly c
  match spriteAt s ly c sprites with
  | none => ⟨bg, .background⟩
  | some sp =>
    if sp.attr.getLsbD 7 && bg != 0 then ⟨bg, .background⟩
    else ⟨sp.index s ly c, if sp.attr.getLsbD 4 then .object1 else .object0⟩

/-- `(P >> (2*ci)) & 3` (rule R469). -/
def paletteShade (p : Byte) (ci : Nat) : Nat := p.toNat / 4 ^ ci % 4

/-- The shade of a pixel through its palette; without BGP when LCDC bit 0 is 0 (rules R462, R469). -/
def pixelShade (s : State) (p : Pixel) : Nat :=
  match p.paletteSource with
  | .background => if s.lcdc 0 then paletteShade (s.readByte addrBGP) p.colorIndex else 0
  | .object0 => paletteShade (s.readByte addrOBP0) p.colorIndex
  | .object1 => paletteShade (s.readByte addrOBP1) p.colorIndex

/-- `SHADE_RGB(shade)` (rule R469). -/
def shadeColour (t : ShadeTable) : Nat → Rgb
  | 0 => t.shade0
  | 1 => t.shade1
  | 2 => t.shade2
  | _ => t.shade3

/-- The shade at a column with the LCD on. -/
def columnShade (s : State) (ly : Nat) (sprites : List Sprite) (c : Nat) : Nat :=
  pixelShade s (mixedPixel s ly c sprites)

/-- `composite(ly)` (rules R460, R461): 160 pixels from memory as it is now, white when the LCD is off. -/
def composite (s : State) (ly : Nat) : Scanline :=
  if s.lcdc 7 then
    let sprites := spriteList s ly
    (List.range 160).map fun c => shadeColour s.cfg.shadeRgb (columnShade s ly sprites c)
  else List.replicate 160 (shadeColour s.cfg.shadeRgb 0)

end Sys2Proof.Machine
end

