-- ==== Sys2Proof/Machine/Ppu.lean ====
section
/-! DEFINITION. The PPU's mode state machine: 65_ppu.md rules R450 to R459, and the frame hand-off of
60_exceptions.md rule R443. -/

namespace Sys2Proof.Machine

/-- `modecode` (10_state.md rule R47). -/
def PpuMode.code : PpuMode → Nat
  | .hBlank => 0
  | .vBlank => 1
  | .oamSearch => 2
  | .pixelDrawing => 3

/-- Offer a finished frame to the hand-off slot (rule R443): it is stored when the slot is empty and the consumer
is ready at this moment, and dropped otherwise. The readiness is a free value (log 5). -/
def offerFrame (s : State) (fr : Frame) : State :=
  { s with
    frameSlot := if s.frameSlot = none then (if Config.consumerReady s.emitted then some fr else none) else s.frameSlot
    emitted := s.emitted + 1 }

/-- OR a request bit into IF (rules R458, R459). -/
def requestInterrupt (s : State) (bit : Byte) : State := s.writeByte addrIF (s.readByte addrIF ||| bit)

/-- `enter_vblank()` at the end of line 143 (rules R454, R458). -/
def enterVBlank (s : State) : State :=
  requestInterrupt { offerFrame { s with ly := 144, mode := .vBlank } s.lines with lines := [] } 0x01#8

/-- The end of a line, where `dot` wraps to 0 (rule R452). -/
def endOfLine (s : State) : State :=
  if s.ly < 143 then { s with dot := 0, ly := s.ly + 1, mode := .oamSearch }
  else if s.ly = 143 then enterVBlank { s with dot := 0 }
  else if s.ly < 153 then { s with dot := 0, ly := s.ly + 1 }
  else { s with dot := 0, ly := 0, mode := .oamSearch }

/-- The part of a tick before the mirror: the dot counter and the mode transitions (rules R452 to R456). -/
def advanceDot (s : State) : State :=
  if s.dot + 1 = 456 then endOfLine s
  else if s.mode = .oamSearch ∧ s.dot + 1 = 80 then
    { s with dot := 80, mode := .pixelDrawing, lines := s.lines ++ [composite s s.ly] }
  else if s.mode = .pixelDrawing ∧ s.dot + 1 = 160 then { s with dot := 160, mode := .hBlank }
  else { s with dot := s.dot + 1 }

/-- `coinc`: the LYC compare (rule R457). -/
def State.coincidence (s : State) : Bool := s.ly == (s.readByte addrLYC).toNat

/-- The STAT byte with bits 2..0 replaced by the coincidence flag and the mode code (rule R457). -/
def statMirror (old : Byte) (coinc : Bool) (m : PpuMode) : Byte :=
  (old &&& 0xF8#8) ||| (if coinc then 0x04#8 else 0#8) ||| .ofNat 8 m.code

/-- What the mirror leaves: the state, the STAT byte it wrote and the LYC compare it made (rules R457, R459). -/
structure Mirrored where
  st    : State
  stat  : Byte
  coinc : Bool
deriving DecidableEq, Repr

/-- `mirror_registers()` (rule R457): LY, then STAT. -/
def mirrorRegisters (s : State) : Mirrored :=
  let s1 := s.writeByte addrLY (.ofNat 8 s.ly)
  let coinc := s1.coincidence
  let stat := statMirror (s1.readByte addrSTAT) coinc s1.mode
  { st := s1.writeByte addrSTAT stat, stat := stat, coinc := coinc }

/-- `line`: the combined STAT condition, gated by the select bits 6..3 of the STAT byte (rule R459). -/
def statCondition (stat : Byte) (coinc : Bool) (m : PpuMode) : Bool :=
  (stat.getLsbD 6 && coinc) || (stat.getLsbD 5 && m == .oamSearch) || (stat.getLsbD 4 && m == .vBlank) ||
    (stat.getLsbD 3 && m == .hBlank)

/-- `stat_interrupt_check()` (rule R459): a request on each rising edge of the condition, which is made of the STAT
byte just written and the mirror's compare, not of bytes read back from `BUS`. -/
def statInterruptCheck (m : Mirrored) : State :=
  let line := statCondition m.stat m.coinc m.st.mode
  { (if line && !m.st.statLine then requestInterrupt m.st 0x02#8 else m.st) with statLine := line }

/-- One tick in full (rule R452). -/
def ppuTick (s : State) : State := statInterruptCheck (mirrorRegisters (advanceDot s))

/-- The ticks that follow a CPU step (60_exceptions.md rule R407). -/
def ppuTicks : Nat → State → State
  | 0, s => s
  | n + 1, s => ppuTicks n (ppuTick s)

end Sys2Proof.Machine
end

