-- ==== Sys2Proof/Machine/Fetch.lean ====
section
/-! DEFINITION. Fetching an instruction, the start of a step (which of its kinds it is), and the CPU step of
60_exceptions.md rules R400 to R430. -/

namespace Sys2Proof.Machine

/-- The bytes from an address up to the end of the address space, three at most: no fetch wraps (30_encoding.md
rules R111, R112). -/
def State.bytesAt (s : State) (a : Word) : List Byte :=
  if a.toNat + 2 ≤ 0xFFFF then [s.readByte a, s.readByte (a + 1), s.readByte (a + 2)]
  else if a.toNat + 1 ≤ 0xFFFF then [s.readByte a, s.readByte (a + 1)]
  else [s.readByte a]

/-- Rule R111 at PC: a byte that would lie past 0xFFFF is AddressOutOfRange (rule R112). -/
def State.fetch (s : State) : Except FaultKind Instr :=
  match decode (s.bytesAt s.pc) with
  | .ok (i, _) => .ok i
  | .error _ => .error .addressOutOfRange

/-- Halted or stopped (10_state.md rule R41). -/
def State.asleep (s : State) : Bool := s.halted || s.stopped

/-- The wake-up condition of rule R430. -/
def State.wakes (s : State) : Bool := s.pending != 0#8 && !(s.stopped && s.cfg.stopWake == .never)

/-- The state a step goes on from once the CPU is awake: `halted` and `stopped` are cleared (rule R430). -/
def State.awake (s : State) : State := { s with halted := false, stopped := false }

/-- Which kind of step the machine takes next (rules R400, R401, R410, R422). -/
inductive StepKind where
  | noStep (r : FaultRecord)
  | idle
  | dispatch (k : Nat)
  | instr (i : Instr)
  | badFetch (k : FaultKind)
deriving DecidableEq, Repr

/-- The choice at the start of a step, in the order of rule R400. -/
def State.stepKind (s : State) : StepKind :=
  match s.fault with
  | some r => .noStep r
  | none =>
    if s.asleep && !s.wakes then .idle
    else if s.ime && s.pending != 0#8 then .dispatch (lowestPending s.pending)
    else
      match s.fetch with
      | .ok i => .instr i
      | .error k => .badFetch k

/-- A raise restores the snapshot taken when the step began, `halted` and `stopped` with it (rules R400, R410). -/
def restoreOnRaise (s t : State) : State :=
  match t.fault with
  | none => t
  | some r => { s with fault := some r }

/-- `step()` of rule R400: one CPU step, before the PPU's ticks. -/
def cpuStep (s : State) : Result :=
  let outcome : Result :=
    match s.stepKind with
    | .noStep r => .fault (.noStep r.kind r.pc)
    | .idle => .next { s with cycles := s.cycles + 4 }
    | .dispatch _ => dispatchInterrupt s.awake
    | .instr i => exec i s.awake
    | .badFetch k => raised s.awake k
  match outcome with
  | .next t => .next (restoreOnRaise s t)
  | .fault r => .fault r
  | .refused r => .refused r

/-- The PPU's ticks after a CPU step, as many as the step's cost; none after a fault (rule R407). -/
def ticksAfter (s t : State) : State := if t.fault.isSome then t else ppuTicks (t.cycles - s.cycles) t

/-- `system_step()` (rule R407): the CPU step, then the ticks. -/
def systemStep (s : State) : Result :=
  match cpuStep s with
  | .next t => .next (ticksAfter s t)
  | .fault r => .fault r
  | .refused r => .refused r

/-! ## What the host receives -/

/-- The result of a step (rule R442). -/
inductive StepResult where
  | instruction (i : Instr) (cost : Nat)
  | interrupt (k : Nat) (cost : Nat)
  | idle (cost : Nat)
  | faulted
  | noStep
deriving DecidableEq, Repr

/-- The result of the step a state takes next (rule R442, log 14). -/
def stepResult (s : State) : StepResult :=
  match cpuStep s with
  | .next t =>
    if t.fault.isSome then .faulted
    else
      match s.stepKind with
      | .instr i => .instruction i (t.cycles - s.cycles)
      | .dispatch k => .interrupt k (t.cycles - s.cycles)
      | _ => .idle (t.cycles - s.cycles)
  | _ => .noStep

/-! ## Storing an instruction where the next step fetches -/

/-- The state on the default `BUS`, the one that is known to give back a stored byte. It is already so after reset
(log 11). -/
def State.onFlatStore (s : State) : State := { s with cfg := { s.cfg with bus := .flat } }

/-- Store a byte at PC + k, unless that lies past the end of the address space. -/
def State.putAhead (s : State) (k : Nat) (v : Byte) : State :=
  if s.pc.toNat + k ≤ 0xFFFF then s.writeByte (s.pc + .ofNat 16 k) v else s

/-- Three bytes at PC, the first in bits 7..0 of `w`. -/
def State.putWord (s : State) (w : Nat) : State :=
  ((s.putAhead 0 (.ofNat 8 w)).putAhead 1 (.ofNat 8 (w / 2 ^ 8))).putAhead 2 (.ofNat 8 (w / 2 ^ 16))

/-- A state whose next step fetches: no recorded fault, awake, and no interrupt about to be dispatched. Every part
of this is already so after reset (log 11). -/
def State.readyToFetch (s : State) : State :=
  { s with fault := none, halted := false, stopped := false, ime := s.ime && s.pending == 0#8 }

end Sys2Proof.Machine
end

