-- ==== Sys2Proof/Machine/Step.lean ====
section
/-! DEFINITION. One step of the whole machine, and how an instruction is placed where the next step fetches it. -/

namespace Sys2Proof.Machine

/-- One system step (60_exceptions.md rule R407). The host acts between two of them. -/
def step (s : State) : Host.Outcome State Fault Refusal := systemStep s

/-- The instruction whose bytes are `w` (bits above `nbits` zero, three bytes at most), stored at PC, where `step`
fetches (log 11). -/
def State.withFetchWord (s : State) (nbits w : Nat) : State := (s.onFlatStore.putWord (w % 2 ^ nbits)).readyToFetch

end Sys2Proof.Machine
end

