-- ==== Sys2Proof/Machine/HostActions.lean ====
section
/-! DEFINITION. What the host may do between two system steps (60_exceptions.md rules R440 to R444) and its reset
(70_reset_and_hazards.md rules R500 to R505). These are functions on states, outside `step` (log 10). -/

namespace Sys2Proof.Machine

/-- Write any byte (rule R441): loading a program, or standing for a device. -/
def hostWrite (s : State) (a : Word) (v : Byte) : State := s.writeByte a v

/-- Request the interrupts whose bits are set, as a device the core lacks would (rule R441). -/
def hostRequest (s : State) (bits : Byte) : State := hostWrite s addrIF (s.readByte addrIF ||| bits)

/-- Take the finished frame, emptying the slot (rule R443). -/
def hostTakeFrame (s : State) : Option Frame × State := (s.frameSlot, { s with frameSlot := none })

/-- Set or clear the breakpoint (rule R444). -/
def hostSetBreakpoint (s : State) (bp : Option Word) : State := { s with bp := bp }

/-- The check after a system step: the breakpoint is set and PC is there (rule R444). -/
def State.atBreakpoint (s : State) : Bool := s.bp == some s.pc

/-- The driving loop, at most n system steps: it stops after a step that leaves PC at the breakpoint, and when
the machine takes no further step (rule R444). -/
def drive : Nat → State → State
  | 0, s => s
  | n + 1, s =>
    match step s with
    | .next t => if t.atBreakpoint then t else drive n t
    | _ => s

/-- The state of the CPU's control and of the PPU that both profiles set (rule R501). -/
def State.resetControl (s : State) : State :=
  { s with
    ime := false, eiArmed := false, halted := false, stopped := false, haltbug := false, fault := none, cycles := 0
    dot := 0, ly := 0, mode := .oamSearch, lines := [], statLine := false, frameSlot := none }

/-- The bytes rule R503 defines, written through `BUS` in the table's order (log 6). -/
def State.writeBootBytes (s : State) : State := s.writeBytes (postBootBytes.map fun c => (.ofNat 16 c.1, c.2))

/-- Reset (rules R500 to R503). Memory is kept, but for the bytes of rule R503 under `PostBoot`; so are the
breakpoint, the parameters and the count of draws, which no rule resets (log 13). -/
def hostReset (p : ResetProfile) (d : PowerOnDraw) (s : State) : State :=
  let t := s.resetControl
  match p with
  | .powerOn =>
    { t with a := d.a, f := highNibble d.f, b := d.b, c := d.c, d := d.d, e := d.e, h := d.h, l := d.l, sp := d.sp, pc := 0x0000#16 }
  | .postBoot =>
    { t with
      a := 0x01#8, f := 0xB0#8, b := 0x00#8, c := 0x13#8, d := 0x00#8, e := 0xD8#8, h := 0x01#8, l := 0x4D#8
      sp := 0xFFFE#16, pc := 0x0100#16, mem := t.writeBootBytes.mem, device := t.writeBootBytes.device }

end Sys2Proof.Machine
end

