-- ==== Sys2Proof/Safety.lean ====
section
/-! DEFINITION. What a good state and a safe run are, in the terms the statements use. -/

namespace Sys2Proof.Machine

/-- The mode the PPU is in at a position of the frame (65_ppu.md rule R451). -/
def modeAt (ly dot : Nat) : PpuMode :=
  if 144 ≤ ly then .vBlank else if dot < 80 then .oamSearch else if dot < 160 then .pixelDrawing else .hBlank

/-- How many scanlines the frame in progress holds at a position (rules R454, R456). -/
def linesAt (ly dot : Nat) : Nat := if 144 ≤ ly then 0 else if dot < 80 then ly else ly + 1

/-- A scanline has 160 pixels (rule R471). -/
def Scanline.full (l : Scanline) : Bool := l.length == 160

/-- A finished frame has 144 full scanlines (rule R471). -/
def Frame.full (fr : Frame) : Bool := fr.length == 144 && fr.all Scanline.full

/-- The promises the spec makes about a state at a step boundary. -/
structure Inv (s : State) : Prop where
  /-- Equal memories are equal lists. -/
  memCanonical : Memory.wf s.mem = true
  /-- F's low nibble is always zero (10_state.md rule R33). -/
  flagsLow : s.f &&& 0x0F#8 = 0#8
  /-- `haltbug` exists only when `HALT_BUG` is true (rule R42). -/
  haltbugOnlyIf : s.haltbug = true → s.cfg.haltBug = true
  /-- Only one of the two sleeping states is entered at a time (rule R430). -/
  oneSleep : (s.halted && s.stopped) = false
  /-- Rule R46. -/
  dotRange : s.dot < 456
  lyRange : s.ly < 154
  /-- Rule R451. -/
  modeMatches : s.mode = modeAt s.ly s.dot
  /-- Rules R454 and R456. -/
  linesCount : s.lines.length = linesAt s.ly s.dot
  linesFull : s.lines.all Scanline.full = true
  /-- Every frame offered holds 144 lines (rule R471). -/
  slotFull : ∀ fr, s.frameSlot = some fr → Frame.full fr = true

/-- The PPU's position in the frame, in ticks from line 0, dot 0 (rule R451). -/
def State.framePosition (s : State) : Nat := s.ly * 456 + s.dot

/-- A safe run: n system steps from a state, none of which ends in a recorded fault. -/
def SafeRun : Nat → State → Prop
  | 0, s => s.fault = none
  | n + 1, s => s.fault = none ∧ ∃ t, step s = .next t ∧ SafeRun n t

end Sys2Proof.Machine
end

