-- ==== Sys2Proof/Claims.lean ====
section
/-! DEFINITION. The terms in which the statements of Certificates/Slice0/Obligations.lean are made. Each is written
from the spec's tables, not from the meanings in Machine/. -/

namespace Sys2Proof.Claims

open Sys2Proof.Machine

/-! ## Encodings -/

/-- The value that selects a register in the r8 table (30_encoding.md rule R115). -/
def regCode : R7 → Nat
  | .b => 0
  | .c => 1
  | .d => 2
  | .e => 3
  | .h => 4
  | .l => 5
  | .a => 7

/-- The r8 table with its value 6, the byte at HL (rule R115). -/
def operandCode : Operand8 → Nat
  | .reg r => regCode r
  | .atHL => 6

/-- The first pair table (rule R116). -/
def pairCode : RR → Nat
  | .bc => 0
  | .de => 1
  | .hl => 2
  | .sp => 3

/-- The second pair table (rule R116). -/
def stackPairCode : QQ → Nat
  | .bc => 0
  | .de => 1
  | .hl => 2
  | .af => 3

/-- The condition table (rule R117). -/
def condCode : Cond → Nat
  | .nz => 0
  | .z => 1
  | .nc => 2
  | .c => 3

/-- The ALU table (rule R118). -/
def aluCode : AluOp → Nat
  | .add => 0
  | .adc => 1
  | .sub => 2
  | .sbc => 3
  | .and => 4
  | .xor => 5
  | .or => 6
  | .cp => 7

/-- The rotate table (rule R118). -/
def shiftCode : ShiftOp → Nat
  | .rlc => 0
  | .rrc => 1
  | .rl => 2
  | .rr => 3
  | .sla => 4
  | .sra => 5
  | .swap => 6
  | .srl => 7

/-- The opcode byte with fields x, y and z (rule R114). -/
def opcode (x y z : Nat) : Byte := .ofNat 8 (64 * x + 8 * y + z)

/-- The instruction's bytes are these: the encoder writes them, they decode to it whatever follows, and a fetch that
the end of the address space cuts short raises AddressOutOfRange (rules R111, R112). -/
def Encoded (i : Instr) (bytes : List Byte) : Prop :=
  encode i = bytes ∧ (∀ rest, decode (bytes ++ rest) = .ok (i, rest)) ∧
    ∀ (s : State) (k : Nat), k < bytes.length → s.bytesAt s.pc = bytes.take k → s.fetch = .error .addressOutOfRange

/-! ## The end of an instruction step -/

/-- The state after an instruction step from `s` that made `t` of it, goes on at `pc` and costs `cost`, when the
instruction is none of `DI`, `EI` and `RETI` (60_exceptions.md rules R400, R405, R406). -/
def completed (s t : State) (pc : Word) (cost : Nat) : State :=
  { t with pc := pc, haltbug := false, ime := s.ime || s.eiArmed, eiArmed := false, cycles := s.cycles + cost }

/-- The state after a step that raised: only `fault` is written (rule R410). -/
def faulted (s : State) (k : FaultKind) : State := { s with fault := some ⟨k, s.pc⟩ }

/-! ## Shapes of instruction families -/

/-- An ALU operation in its three operand forms, with `effect` what it does with the operand byte. -/
def AluForms (op : AluOp) (effect : State → Byte → State) : Prop :=
  (∀ r, Encoded (Row.alu op (.reg r)) [opcode 2 (aluCode op) (regCode r)] ∧
    ∀ s, exec (Row.alu op (.reg r)) s = .next (completed s (effect s (s.reg r)) (s.pcNext 1) 4)) ∧
  (Encoded (Row.alu op .atHL) [opcode 2 (aluCode op) 6] ∧
    ∀ s, exec (Row.alu op .atHL) s = .next (completed s (effect s (s.readByte s.hl)) (s.pcNext 1) 8)) ∧
  (∀ n8, Encoded (Row.aluImm op n8) [opcode 3 (aluCode op) 6, n8] ∧
    ∀ s, exec (Row.aluImm op n8) s = .next (completed s (effect s n8) (s.pcNext 2) 8))

/-- A CB rotate, shift or SWAP in its two operand forms, with `result` the new byte and the new C from the old byte
and the old C; Z is set from the result (44_rotate_shift.md). -/
def ShiftForms (op : ShiftOp) (result : Byte → Bool → Byte × Bool) : Prop :=
  (∀ r, Encoded (Row.shift op (.reg r)) [0xCB#8, opcode 0 (shiftCode op) (regCode r)] ∧
    ∀ s, exec (Row.shift op (.reg r)) s =
      .next (completed s
        ((s.setReg r (result (s.reg r) s.flagC).1).setFlags ((result (s.reg r) s.flagC).1 == 0#8) false false
          (result (s.reg r) s.flagC).2)
        (s.pcNext 2) 8)) ∧
  (Encoded (Row.shift op .atHL) [0xCB#8, opcode 0 (shiftCode op) 6] ∧
    ∀ s, exec (Row.shift op .atHL) s =
      .next (completed s
        ((s.writeByte s.hl (result (s.readByte s.hl) s.flagC).1).setFlags
          ((result (s.readByte s.hl) s.flagC).1 == 0#8) false false (result (s.readByte s.hl) s.flagC).2)
        (s.pcNext 2) 16))

/-! ## Results, from the rules' formulas -/

/-- A carry or borrow as the number it adds. -/
def carryByte (c : Bool) : Byte := if c then 1#8 else 0#8

/-- `ADD` and `ADC`: A plus a byte plus a carry (42_alu8.md rules R228, R230 to R235). -/
def addInto (s : State) (v : Byte) (cin : Bool) : State :=
  ({ s with a := s.a + v + carryByte cin } : State).setFlags (s.a + v + carryByte cin == 0#8) false
    (decide (0xF < s.a.toNat % 16 + v.toNat % 16 + cin.toNat)) (decide (0xFF < s.a.toNat + v.toNat + cin.toNat))

/-- `SUB` and `SBC`: A less a byte less a borrow (rules R229, R236 to R241). -/
def subFrom (s : State) (v : Byte) (bin : Bool) : State :=
  ({ s with a := s.a - v - carryByte bin } : State).setFlags (s.a - v - carryByte bin == 0#8) true
    (decide (s.a.toNat % 16 < v.toNat % 16 + bin.toNat)) (decide (s.a.toNat < v.toNat + bin.toNat))

/-- `CP`: the flags of the subtraction, A kept (rules R251 to R253). -/
def compareWith (s : State) (v : Byte) : State :=
  s.setFlags (s.a == v) true (decide (s.a.toNat % 16 < v.toNat % 16)) (decide (s.a.toNat < v.toNat))

/-- `AND`, `XOR` and `OR`: a bitwise result in A (rules R242 to R250). -/
def logicInto (s : State) (v : Byte) (h : Bool) : State :=
  ({ s with a := v } : State).setFlags (v == 0#8) false h false

/-- The pseudocode of `DAA` on the integer A, giving A and C before the reduction mod 256 (rule R258). -/
def daaSteps (a : Int) (n h c : Bool) : Int × Bool :=
  if n = false then
    let a1 := if c = true ∨ 0x99 < a then a + 0x60 else a
    let c1 := if c = true ∨ 0x99 < a then true else c
    (if h = true ∨ 9 < a1 % 16 then a1 + 0x06 else a1, c1)
  else
    let a1 := if c = true then a - 0x60 else a
    (if h = true then a1 - 0x06 else a1, c)

/-- A number below 100 as two decimal digits in a byte. -/
def bcd (n : Nat) : Byte := .ofNat 8 (n / 10 * 16 + n % 10)

/-- The table of the shift unit, column `res` and column `co` (44_rotate_shift.md rule R269). -/
def shiftResult (op : ShiftOp) (v : Byte) (c : Bool) : Byte × Bool :=
  match op with
  | .rlc => ((v <<< 1) ||| (v >>> 7), v.getLsbD 7)
  | .rrc => ((v >>> 1) ||| (v <<< 7), v.getLsbD 0)
  | .rl => ((v <<< 1) ||| carryByte c, v.getLsbD 7)
  | .rr => ((v >>> 1) ||| (carryByte c <<< 7), v.getLsbD 0)
  | .sla => (v <<< 1, v.getLsbD 7)
  | .sra => ((v >>> 1) ||| (v &&& 0x80#8), v.getLsbD 0)
  | .swap => ((v <<< 4) ||| (v >>> 4), false)
  | .srl => (v >>> 1, v.getLsbD 0)

/-- A word pushed: SP down by two, the byte for SP+1 written, then the byte for SP (41_load16.md rule R219,
20_memory.md rules R82, R88). -/
def pushed (s : State) (v : Word) : State :=
  { (s.writeByte (s.sp - 1) (upperByte s.cfg.wordOrder v)).writeByte (s.sp - 2) (lowerByte s.cfg.wordOrder v) with
    sp := s.sp - 2 }

/-- The word at an address below 0xFFFF, in the byte order of `WORD_ORDER` (20_memory.md rule R82). -/
def wordAt (s : State) (a : Word) : Word :=
  match s.cfg.wordOrder with
  | .littleEndian => joinBytes (s.readByte (a + 1)) (s.readByte a)
  | .bigEndian => joinBytes (s.readByte a) (s.readByte (a + 1))

/-- A conditional instruction's condition as a test of the flag byte's bits (46_control.md rule R299). -/
def holds (cc : Cond) (f : Byte) : Bool :=
  match cc with
  | .nz => !f.getLsbD 7
  | .z => f.getLsbD 7
  | .nc => !f.getLsbD 4
  | .c => f.getLsbD 4

/-! ## Sets of instructions, by opcode byte -/

/-- The unprefixed opcode of an instruction, none for a CB instruction. -/
def mainOpcode (i : Instr) : Option Nat := if i.spec.isPrefixed then none else some i.spec.value.toNat

/-- The instruction is one of these unprefixed opcodes. -/
def isOneOf (i : Instr) (ops : List Nat) : Bool :=
  match mainOpcode i with
  | none => false
  | some v => ops.contains v

/-- The eleven illegal opcodes (30_encoding.md rule R126). -/
def illegalOpcodes : List Nat := [0xD3, 0xDB, 0xDD, 0xE3, 0xE4, 0xEB, 0xEC, 0xED, 0xF4, 0xFC, 0xFD]

/-- `PUSH`, `CALL` and `RST`. -/
def pushOpcodes : List Nat :=
  [0xC5, 0xD5, 0xE5, 0xF5, 0xCD, 0xC7, 0xCF, 0xD7, 0xDF, 0xE7, 0xEF, 0xF7, 0xFF]

/-- `POP`, `RET` and `RETI`. -/
def popOpcodes : List Nat := [0xC1, 0xD1, 0xE1, 0xF1, 0xC9, 0xD9]

/-- `CALL cc`. -/
def callIfOpcodes : List Nat := [0xC4, 0xCC, 0xD4, 0xDC]

/-- `RET cc`. -/
def retIfOpcodes : List Nat := [0xC0, 0xC8, 0xD0, 0xD8]

/-- `JP cc` and `JR cc`. -/
def jumpIfOpcodes : List Nat := [0xC2, 0xCA, 0xD2, 0xDA, 0x20, 0x28, 0x30, 0x38]

/-- The condition an opcode byte's bits 4 and 3 select (30_encoding.md rules R114, R117). -/
def opcodeCond (v : Nat) : Cond :=
  match v / 8 % 4 with
  | 0 => .nz
  | 1 => .z
  | 2 => .nc
  | _ => .c

/-- The instruction's condition, if it has one, holds in a flag byte; true when it has none. -/
def taken (i : Instr) (f : Byte) : Bool :=
  match mainOpcode i with
  | none => true
  | some v => if (jumpIfOpcodes ++ callIfOpcodes ++ retIfOpcodes).contains v then holds (opcodeCond v) f else true

/-- The instructions that write `pc` when their condition, if any, holds: the jumps, calls, returns and restarts. -/
def transfers (i : Instr) : Bool :=
  isOneOf i ([0x18, 0xC3, 0xE9, 0xCD, 0xC9, 0xD9, 0xC7, 0xCF, 0xD7, 0xDF, 0xE7, 0xEF, 0xF7, 0xFF] ++ jumpIfOpcodes ++
    callIfOpcodes ++ retIfOpcodes)

/-- The instruction pushes a word when it runs with these flags. -/
def pushes (i : Instr) (f : Byte) : Bool := isOneOf i pushOpcodes || (isOneOf i callIfOpcodes && taken i f)

/-- The instruction pops a word when it runs with these flags. -/
def pops (i : Instr) (f : Byte) : Bool := isOneOf i popOpcodes || (isOneOf i retIfOpcodes && taken i f)

/-- What the CB table's second byte does, by its two top bits: true for the forms that write their operand, that is
all but `BIT` (rule R118). -/
def cbWrites (i : Instr) : Bool := i.spec.isPrefixed && fieldX i.spec.value != 1

/-- A flag after an instruction agrees with its class: kept, reset or set; a computed flag is not constrained here
(00_scope.md rule R17). -/
def flagAgrees (k : FlagClass) (old new : Bool) : Prop :=
  match k with
  | .unaffected => new = old
  | .reset => new = false
  | .set => new = true
  | .computed => True

/-- The addresses an instruction stores a byte to from a state, by opcode byte (20_memory.md rule R86,
30_encoding.md rule R121). -/
def stores (i : Instr) (s : State) : List Word :=
  if cbWrites i && fieldZ i.spec.value == 6 then [s.hl]
  else if isOneOf i [0x22, 0x32, 0x34, 0x35, 0x36, 0x70, 0x71, 0x72, 0x73, 0x74, 0x75, 0x77] then [s.hl]
  else if isOneOf i [0x02] then [s.bc]
  else if isOneOf i [0x12] then [s.de]
  else if isOneOf i [0xE2] then [ioAddress s.c]
  else if pushes i s.f then [s.sp - 1, s.sp - 2]
  else if isOneOf i [0xE0, 0xEA, 0x08] then
    match mainOpcode i, i.imm with
    | some 0xE0, [n8] => [ioAddress n8]
    | some 0xEA, [m1, m2] => [s.imm16 m1 m2]
    | _, [m1, m2] => [s.imm16 m1 m2, s.imm16 m1 m2 + 1]
    | _, _ => []
  else []

/-- The 8-bit registers a pair field names. -/
def pairRegs : Nat → List R7
  | 0 => [.b, .c]
  | 1 => [.d, .e]
  | 2 => [.h, .l]
  | _ => []

/-- The register an r8 field names; none for the byte at HL. -/
def fieldReg (n : Nat) : List R7 :=
  match Operand8.ofField n with
  | .reg r => [r]
  | .atHL => []

/-- The 8-bit registers but F that an instruction may write, by opcode fields (10_state.md rule R38,
30_encoding.md rules R114 to R118, R124). -/
def writtenRegs (i : Instr) : List R7 :=
  let v := i.spec.value
  if i.spec.isPrefixed then (if cbWrites i then fieldReg (fieldZ v) else [])
  else
    match fieldX v with
    | 0 =>
      match fieldZ v with
      | 1 => if fieldQ v = 0 then pairRegs (fieldP v) else [.h, .l]
      | 2 => (if fieldQ v = 1 then [.a] else []) ++ (if fieldP v < 2 then [] else [.h, .l])
      | 3 => pairRegs (fieldP v)
      | 4 => fieldReg (fieldY v)
      | 5 => fieldReg (fieldY v)
      | 6 => fieldReg (fieldY v)
      | 7 => if fieldY v < 6 then [.a] else []
      | _ => []
    | 1 => fieldReg (fieldY v)
    | 2 => if fieldY v = 7 then [] else [.a]
    | _ =>
      if fieldZ v = 6 then (if fieldY v = 7 then [] else [.a])
      else if isOneOf i [0xC1] then [.b, .c]
      else if isOneOf i [0xD1] then [.d, .e]
      else if isOneOf i [0xE1, 0xF8] then [.h, .l]
      else if isOneOf i [0xF1, 0xF0, 0xF2, 0xFA] then [.a]
      else []

/-- The instructions that may write SP (10_state.md rule R38): `LD SP,d16`, `LD SP,HL`, `INC SP`, `DEC SP`,
`ADD SP,r8`, the pushes and the pops. -/
def writesSP (i : Instr) (f : Byte) : Bool :=
  isOneOf i [0x31, 0xF9, 0x33, 0x3B, 0xE8] || pushes i f || pops i f

/-! ## Faults -/

/-- The fault a system step ends in, if any, from the table of causes of 60_exceptions.md rule R411. -/
def faultCause (s : State) : Option FaultKind :=
  let op := (s.readByte s.pc).toNat
  let pending := s.readByte 0xFFFF#16 &&& s.readByte 0xFF0F#16 &&& 0x1F#8
  if (s.halted || s.stopped) && (pending == 0#8 || (s.stopped && s.cfg.stopWake == .never)) then none
  else if s.ime && pending != 0#8 then (if s.sp = 0x0001#16 then some .addressOutOfRange else none)
  else if 0xFFFF < s.pc.toNat + (opcodeLength (s.readByte s.pc) - 1) then some .addressOutOfRange
  else if illegalOpcodes.contains op then some .invalidOperand
  else if s.sp = 0x0001#16 ∧ (pushOpcodes.contains op || (callIfOpcodes.contains op && holds (opcodeCond op) s.f)) then
    some .addressOutOfRange
  else if s.sp = 0xFFFF#16 ∧ (popOpcodes.contains op || (retIfOpcodes.contains op && holds (opcodeCond op) s.f)) then
    some .addressOutOfRange
  else if op = 0x08 ∧ wordAt s (s.pc + 1) = 0xFFFF#16 then some .addressOutOfRange
  else none

/-! ## Reset -/

/-- The bytes of memory that `PostBoot` defines, the whole table (70_reset_and_hazards.md rule R503). -/
def bootBytes : List (Word × Byte) :=
  [(0xFF00#16, 0xCF#8), (0xFF01#16, 0x00#8), (0xFF02#16, 0x7E#8), (0xFF04#16, 0xAB#8), (0xFF05#16, 0x00#8),
   (0xFF06#16, 0x00#8), (0xFF07#16, 0xF8#8), (0xFF0F#16, 0xE1#8), (0xFF40#16, 0x91#8), (0xFF41#16, 0x85#8),
   (0xFF42#16, 0x00#8), (0xFF43#16, 0x00#8), (0xFF44#16, 0x00#8), (0xFF45#16, 0x00#8), (0xFF46#16, 0xFF#8),
   (0xFF47#16, 0xFC#8), (0xFF4A#16, 0x00#8), (0xFF4B#16, 0x00#8), (0xFF50#16, 0x01#8), (0xFFFF#16, 0x00#8)]

/-! ## The PPU -/

/-- The position in the frame is a legal one and the mode is the one the position selects (65_ppu.md rule R451). -/
def OnGrid (s : State) : Prop := s.dot < 456 ∧ s.ly < 154 ∧ s.mode = modeAt s.ly s.dot

/-- The colour index of pixel `p` of the tile row whose two bytes stand at an address (65_ppu.md rule R464). -/
def rowPixel (s : State) (a p : Nat) : Nat :=
  let lo := (s.readByte (.ofNat 16 a)).toNat
  let hi := (s.readByte (.ofNat 16 (a + 1))).toNat
  2 * (hi / 2 ^ (7 - p) % 2) + lo / 2 ^ (7 - p) % 2

/-- The colour index at a pixel of the plane of a tile map, by the map's base and the tile-data mode (rules R464,
R465). -/
def planeIndex (s : State) (base x y : Nat) (unsignedTiles : Bool) : Nat :=
  let t := (s.readByte (.ofNat 16 (base + 32 * (y / 8) + x / 8))).toNat
  let tile := if unsignedTiles then 0x8000 + 16 * t else if t < 128 then 0x9000 + 16 * t else 0x8000 + 16 * t
  rowPixel s (tile + 2 * (y % 8)) (x % 8)

/-- The colour index of the background or window at a column of a line, with LCDC bit 0 = 1: the window's where it
is on, reached and at or right of its trigger column, else the background's (rules R465, R466). -/
def planeColumn (s : State) (ly c : Nat) : Nat :=
  let lcdc := s.readByte 0xFF40#16
  let wx := (s.readByte 0xFF4B#16).toNat
  let wy := (s.readByte 0xFF4A#16).toNat
  if lcdc.getLsbD 5 = true ∧ wy ≤ ly ∧ wx ≤ 166 ∧ (wx : Int) - s.cfg.wxOffset.val ≤ c then
    planeIndex s (if lcdc.getLsbD 6 then 0x9C00 else 0x9800) (c + s.cfg.wxOffset.val - wx) (ly - wy) (lcdc.getLsbD 4)
  else
    planeIndex s (if lcdc.getLsbD 3 then 0x9C00 else 0x9800) (((s.readByte 0xFF43#16).toNat + c) % 256)
      (((s.readByte 0xFF42#16).toNat + ly) % 256) (lcdc.getLsbD 4)

/-- `s_ci` of a sprite at a column and on a line it covers, by the pseudocode of rule R467. -/
def spriteIndex (s : State) (ly c : Nat) (sp : Sprite) : Nat :=
  let tall := (s.readByte 0xFF40#16).getLsbD 2
  let h : Int := if tall then 16 else 8
  let px : Int := c - ((sp.x : Int) - 8)
  let row : Int := ly - ((sp.y : Int) - 16)
  let row := if sp.attr.getLsbD 6 then h - 1 - row else row
  let tile := if tall then (sp.tile &&& 0xFE#8).toNat + row.toNat / 8 else sp.tile.toNat
  let px := if sp.attr.getLsbD 5 then 7 - px else px
  rowPixel s (0x8000 + 16 * tile + 2 * (row.toNat % 8)) px.toNat

/-- The shade of a pixel through its palette (rules R462, R469). -/
def shadeOf (s : State) (p : Pixel) : Nat :=
  match p.paletteSource with
  | .background =>
    if (s.readByte 0xFF40#16).getLsbD 0 then (s.readByte 0xFF47#16).toNat >>> (2 * p.colorIndex) &&& 3 else 0
  | .object0 => (s.readByte 0xFF48#16).toNat >>> (2 * p.colorIndex) &&& 3
  | .object1 => (s.readByte 0xFF49#16).toNat >>> (2 * p.colorIndex) &&& 3

/-! ## The host's side -/

/-- What the host and the consumer can change and a program cannot see: the breakpoint, the hand-off slot and the
count of draws. -/
def withHostSide (s : State) (bp : Option Word) (slot : Option Frame) (n : Nat) : State :=
  { s with bp := bp, frameSlot := slot, emitted := n }

end Sys2Proof.Claims
end

