-- ==== Sys2Proof/Certificates/Slice0/Obligations.lean ====
section
/-! DEFINITION. The statements for the provers; OBLIGATIONS.json lists them with the rules they rest on. The terms they
share stand in Sys2Proof/Claims.lean. -/

open Sys2Proof Sys2Proof.Machine

/-- O1. For every well-formed instruction, with every value of its immediate bytes, and whatever bytes follow,
decoding its encoding gives the instruction and the bytes that follow. (derived; rules R111, R113, R122, R123.) -/
def Obligations.DecodeInvertsEncode : Prop :=
  ∀ (i : Instr) (rest : List Byte), i.wf = true → decode (encode i ++ rest) = .ok (i, rest)

/-- O2. Whenever bytes decode to an instruction, the instruction is well formed (never the bare prefix row) and its
encoding followed by the rest is those bytes. (derived; rules R111, R113, R325.) -/
def Obligations.EncodeInvertsDecode : Prop :=
  ∀ (bytes rest : List Byte) (i : Instr), decode bytes = .ok (i, rest) → i.wf = true ∧ bytes = encode i ++ rest

/-- O3. The length announced by the first byte is 1, 2 or 3; it is 2 for 0xCB and for STOP, whose second byte is
fetched and otherwise ignored; bytes decode exactly when at least that many are there, and then the decoded
instruction has that length, in its encoding and in its table row. (stated; rules R110.) -/
def Obligations.LengthFromFirstByte : Prop :=
  ∀ (b0 : Byte) (rest : List Byte),
    (opcodeLength b0 = 1 ∨ opcodeLength b0 = 2 ∨ opcodeLength b0 = 3) ∧
    opcodeLength 0xCB#8 = 2 ∧ opcodeLength 0x10#8 = 2 ∧
    (∀ pad, decode (0x10#8 :: pad :: rest) = .ok (.stop pad, rest)) ∧
    ((∃ r, decode (b0 :: rest) = .ok r) ↔ opcodeLength b0 ≤ (b0 :: rest).length) ∧
    (∀ i tail, decode (b0 :: rest) = .ok (i, tail) →
      (encode i).length = opcodeLength b0 ∧ i.spec.byteLength = opcodeLength b0)

/-- O4. Fetching at PC fails exactly when the last byte the opcode needs would lie past 0xFFFF, the failure is
AddressOutOfRange, and then an awake machine with no interrupt to dispatch takes a step whose only effect is to
record that fault at PC. (stated; rules R112.) -/
def Obligations.FetchPastEndFaults : Prop :=
  ∀ s : State,
    (∀ k, s.fetch = .error k ↔ (k = .addressOutOfRange ∧ 0xFFFF < s.pc.toNat + (opcodeLength (s.readByte s.pc) - 1))) ∧
    (0xFFFF < s.pc.toNat + (opcodeLength (s.readByte s.pc) - 1) → s.fault = none → s.halted = false → s.stopped = false →
      (s.ime = false ∨ s.pending = 0#8) → step s = .next (Claims.faulted s .addressOutOfRange))

/-- O5. One word or more of each family, written out from the bit patterns of the spec, decodes to the instruction
it stands for. (derived; rules R122, R123.) -/
def Obligations.WrittenOutWordsDecode : Prop :=
  decode [0x78#8] = .ok (.ldAB, []) ∧ decode [0x0E#8, 0x5A#8] = .ok (.ldCD8 0x5A#8, []) ∧
  decode [0x21#8, 0x34#8, 0x12#8] = .ok (.ldHLD16 0x34#8 0x12#8, []) ∧ decode [0xF5#8] = .ok (.pushAF, []) ∧
  decode [0x9E#8] = .ok (.sbcAAtHL, []) ∧ decode [0xFE#8, 0x40#8] = .ok (.cpD8 0x40#8, []) ∧
  decode [0x39#8] = .ok (.addHLSP, []) ∧ decode [0x0F#8] = .ok (.rrca, []) ∧
  decode [0xCB#8, 0x37#8] = .ok (.swapA, []) ∧ decode [0xCB#8, 0x7C#8] = .ok (.bit7H, []) ∧
  decode [0xCB#8, 0xCB#8] = .ok (.set1E, []) ∧ decode [0x38#8, 0xFE#8] = .ok (.jrCR8 0xFE#8, []) ∧
  decode [0xD7#8] = .ok (.rst10, []) ∧ decode [0x76#8] = .ok (.halt, []) ∧ decode [0xFB#8] = .ok (.ei, []) ∧
  decode [0xD3#8] = .ok (.illegalD3, [])

/-- O6. When no fault is recorded, the CPU is awake, no interrupt is about to be dispatched and the bytes at PC
decode to an instruction, the system step is the instruction's own execution followed by as many PPU ticks as it
cost; if the execution raised, the step only records the fault and no tick follows; a stop would be passed on.
(derived; rules R400, R407.) -/
def Obligations.StepRunsDecoded : Prop :=
  ∀ (s : State) (i : Instr) (rest : List Byte), s.fault = none → s.halted = false → s.stopped = false →
    (s.ime = false ∨ s.pending = 0#8) → decode (s.bytesAt s.pc) = .ok (i, rest) →
    (∀ t, exec i s = .next t → t.fault = none → step s = .next (ppuTicks (t.cycles - s.cycles) t)) ∧
    (∀ t r, exec i s = .next t → t.fault = some r → step s = .next { s with fault := some r }) ∧
    (∀ r, exec i s = .fault r → step s = .fault r) ∧ (∀ r, exec i s = .refused r → step s = .refused r)

/-- O7. When the CPU is halted, or stopped with STOP_WAKE = AnyEnabledInterrupt, and an enabled interrupt is
requested, the step is exactly the step of the same state with halted and stopped clear (a dispatch or an
instruction, at no extra cycles); if that step faults, halted and stopped are as they were before it. (stated;
rules R430.) -/
def Obligations.WakeUp : Prop :=
  ∀ (s t : State), s.fault = none → (s.halted = true ∨ s.stopped = true) →
    (s.stopped = true → s.cfg.stopWake = .anyEnabledInterrupt) →
    s.readByte 0xFFFF#16 &&& s.readByte 0xFF0F#16 &&& 0x1F#8 ≠ 0#8 →
    step { s with halted := false, stopped := false } = .next t →
    (t.fault = none → step s = .next t) ∧ (∀ r, t.fault = some r → step s = .next { s with fault := some r })

/-- O8. While the CPU is halted or stopped and the wake-up condition does not hold, the CPU step only adds 4 to
cycles, its result is (Idle, 4), and the system step is that followed by 4 PPU ticks. (stated; rules R401.) -/
def Obligations.IdleStep : Prop :=
  ∀ s : State, s.fault = none → (s.halted = true ∨ s.stopped = true) →
    (s.readByte 0xFFFF#16 &&& s.readByte 0xFF0F#16 &&& 0x1F#8 = 0#8 ∨ (s.stopped = true ∧ s.cfg.stopWake = .never)) →
    cpuStep s = .next { s with cycles := s.cycles + 4 } ∧
    step s = .next (ppuTicks 4 { s with cycles := s.cycles + 4 }) ∧ stepResult s = .idle 4

/-- O9. A step that ends with a fault recorded leaves every other piece of state as it was before the step, and the
recorded PC is the PC of the step; a machine with a fault recorded takes no further step (NoStep); a reset of
either profile clears the fault. That NoStep is the outcome fault of a step is the model's choice (log 7).
(derived; rules R410, R500, R43.) -/
def Obligations.FaultFreezes : Prop :=
  (∀ (s t : State) (r : FaultRecord), s.fault = none → step s = .next t → t.fault = some r →
    r.pc = s.pc ∧ t = { s with fault := some r }) ∧
  (∀ (s : State) (r : FaultRecord), s.fault = some r →
    step s = .fault (.noStep r.kind r.pc) ∧ stepResult s = .noStep) ∧
  (∀ p d s, (hostReset p d s).fault = none)

/-- O10. From every state with no fault recorded the system step gives a next state, never a stop; the fault it
records, if any, is exactly the one the table of causes gives: a fetch past 0xFFFF, an illegal opcode, a push
with SP = 0x0001, a pop with SP = 0xFFFF, LD (a16),SP with a16 = 0xFFFF; and RST of a value that is no restart
target raises InvalidOperand. That a step which faults is a next state with the fault recorded is the model's
choice (log 7). (derived; rules R411, R410.) -/
def Obligations.FaultCauses : Prop :=
  (∀ s : State, s.fault = none → ∃ t, step s = .next t ∧ t.fault.map FaultRecord.kind = Claims.faultCause s) ∧
  (∀ (n : Nat) (s : State), (¬ ∃ k : Fin 8, n = 8 * k.val) → rstStep n s = .next (Claims.faulted s .invalidOperand))

/-- O11. With IME set and interrupt k the lowest one both enabled and requested, an awake CPU, or one this interrupt
wakes, clears request bit k, clears IME, ei_armed and haltbug, pushes PC, goes to 0x0040 + 8k and charges 20
cycles, nothing else changing, and 20 ticks follow; with SP = 0x0001 the whole dispatch is undone and the fault
recorded. (stated; rules R422.) -/
def Obligations.DispatchEntersHandler : Prop :=
  ∀ (s : State) (k : Nat), s.fault = none → s.ime = true → (s.stopped = true → s.cfg.stopWake = .anyEnabledInterrupt) →
    k < 5 → (s.readByte 0xFFFF#16).getLsbD k = true → (s.readByte 0xFF0F#16).getLsbD k = true →
    (∀ j < k, ((s.readByte 0xFFFF#16).getLsbD j && (s.readByte 0xFF0F#16).getLsbD j) = false) →
    (s.sp ≠ 0x0001#16 → ∃ t, cpuStep s = .next t ∧
      t = { Claims.pushed (s.writeByte 0xFF0F#16 (s.readByte 0xFF0F#16 &&& ~~~(1#8 <<< k))) s.pc with
            ime := false, eiArmed := false, haltbug := false, halted := false, stopped := false
            pc := .ofNat 16 (0x0040 + 8 * k), cycles := s.cycles + 20 } ∧
      step s = .next (ppuTicks 20 t) ∧ stepResult s = .interrupt k 20) ∧
    (s.sp = 0x0001#16 → step s = .next (Claims.faulted s .addressOutOfRange))

/-- O12. After any instruction that does not fault: IME is 0 after DI, 1 after RETI, and otherwise what it was, or 1
when ei_armed was set; ei_armed is 1 exactly after EI; halted is set by HALT alone, stopped by STOP alone, and
no instruction clears them; haltbug is 1 exactly after a HALT that ran with HALT_BUG, IME = 0 and an interrupt
pending. (derived; rules R39, R40, R41, R42, R405.) -/
def Obligations.ControlFlagsChange : Prop :=
  ∀ (i : Instr) (s t : State), exec i s = .next t → t.fault = none →
    t.ime = (if i = .di then false else if i = .reti then true else s.ime || s.eiArmed) ∧
    t.eiArmed = decide (i = .ei) ∧
    t.halted = (s.halted || (decide (i = .halt) && !(s.cfg.haltBug && !s.ime && s.pending != 0#8))) ∧
    t.stopped = (s.stopped || Claims.isOneOf i [0x10]) ∧
    t.haltbug = (decide (i = .halt) && s.cfg.haltBug && !s.ime && s.pending != 0#8)

/-- O13. Executing any instruction in any state gives a next state; the PPU's own state, the breakpoint, the
parameters and the count of draws are as before; and either the recorded fault is as before or the next state is
the state before with a fault recorded. That an instruction which raises is a next state with the fault recorded
is the model's choice (log 7), and the count of draws is the model's own field (log 5). (derived; rules R400,
R410, R437, R450.) -/
def Obligations.InstructionFrame : Prop :=
  ∀ (i : Instr) (s : State), ∃ t, exec i s = .next t ∧
    t.dot = s.dot ∧ t.ly = s.ly ∧ t.mode = s.mode ∧ t.lines = s.lines ∧ t.statLine = s.statLine ∧
    t.frameSlot = s.frameSlot ∧ t.bp = s.bp ∧ t.emitted = s.emitted ∧ t.cfg = s.cfg ∧
    (t.fault = s.fault ∨ ∃ k, t = Claims.faulted s k)

/-- O14. A CPU step adds to cycles: nothing if it faults; 4 if idle; 20 if it dispatches; for an instruction the
table's cycles, or its not-taken cycles when it is conditional and its condition, read from the flags at the
start, is false. (stated; rules R404.) -/
def Obligations.CyclesFollowTable : Prop :=
  ∀ s t : State, cpuStep s = .next t →
    (t.fault.isSome = true → t.cycles = s.cycles) ∧
    (t.fault = none →
      (s.stepKind = .idle → t.cycles = s.cycles + 4) ∧
      (∀ k, s.stepKind = .dispatch k → t.cycles = s.cycles + 20) ∧
      (∀ i, s.stepKind = .instr i →
        t.cycles = s.cycles + (if Claims.taken i s.f then i.spec.baseCycles else i.spec.notTakenCycles)))

/-- O15. After a well-formed instruction that neither faults nor transfers control (a conditional one transfers only
when its condition holds), PC is the old PC plus the instruction's length mod 2^16, less one when haltbug was
set. (derived; rules R16, R35, R403.) -/
def Obligations.ProgramCounterAdvances : Prop :=
  ∀ (i : Instr) (s t : State), i.wf = true → exec i s = .next t → t.fault = none →
    (Claims.transfers i && Claims.taken i s.f) = false →
    t.pc.toNat = (s.pc.toNat + (encode i).length + (if s.haltbug then 0xFFFF else 0)) % 0x10000

/-- O16. After a well-formed instruction, each flag its row declares unaffected is as before, each declared reset is
0 and each declared set is 1; if all four are unaffected, F is as before; and F's low nibble is zero if it was.
(derived; rules R17, R33, R36.) -/
def Obligations.FlagsFollowDescriptor : Prop :=
  ∀ (i : Instr) (s t : State), i.wf = true → exec i s = .next t → t.fault = none →
    Claims.flagAgrees i.spec.flags.z (s.f.getLsbD 7) (t.f.getLsbD 7) ∧
    Claims.flagAgrees i.spec.flags.n (s.f.getLsbD 6) (t.f.getLsbD 6) ∧
    Claims.flagAgrees i.spec.flags.h (s.f.getLsbD 5) (t.f.getLsbD 5) ∧
    Claims.flagAgrees i.spec.flags.c (s.f.getLsbD 4) (t.f.getLsbD 4) ∧
    (i.spec.flags = flagsKKKK → t.f = s.f) ∧ (s.f &&& 0x0F#8 = 0#8 → t.f &&& 0x0F#8 = 0#8)

/-- O17. After any well-formed instruction, every 8-bit register outside the list read off its opcode is as before,
and so is SP unless the instruction is one of those that move it. (derived; rules R38.) -/
def Obligations.RegistersFrame : Prop :=
  ∀ (i : Instr) (s t : State), i.wf = true → exec i s = .next t →
    (∀ r, r ∉ Claims.writtenRegs i → t.reg r = s.reg r) ∧ (Claims.writesSP i s.f = false → t.sp = s.sp)

/-- O18. An instruction stores to HL, BC, DE, the I/O page address, the absolute address, or the two bytes below SP,
as its opcode says, and nowhere else: whatever BUS is, a well-formed instruction that does not fault leaves in
memory, and in the device behind BUS, what byte writes at those addresses in that order leave there, and one
that stores nothing leaves both as they were; on the default BUS every byte at another address reads as before.
(derived; rules R86, R88, R121.) -/
def Obligations.MemoryFrame : Prop :=
  ∀ (i : Instr) (s t : State), i.wf = true → exec i s = .next t →
    (t.fault = none → ∃ cells : List (Word × Byte), cells.map Prod.fst = Claims.stores i s ∧
      t.mem = (s.writeBytes cells).mem ∧ t.device = (s.writeBytes cells).device) ∧
    (Claims.stores i s = [] → t.mem = s.mem ∧ t.device = s.device) ∧
    (s.cfg.bus = .flat → ∀ a, a ∉ Claims.stores i s → t.readByte a = s.readByte a)

/-- O19. LD r,r', LD r,d8, LD r,(HL), LD (HL),r and LD (HL),d8 (Row.ld but for HALT, and Row.ldImm, all operands)
have the encodings given and complete from every state: the destination gets the source's old value, F and
everything else is kept, PC moves past the instruction, at 4, 8, 8, 8 and 12 cycles. (stated; rules R200, R201,
R202, R203, R204.) -/
def Obligations.LoadByte : Prop :=
  (∀ q r, Claims.Encoded (Row.ld (.reg q) (.reg r)) [Claims.opcode 1 (Claims.regCode q) (Claims.regCode r)] ∧
    ∀ s, exec (Row.ld (.reg q) (.reg r)) s = .next (Claims.completed s (s.setReg q (s.reg r)) (s.pcNext 1) 4)) ∧
  (∀ q n8, Claims.Encoded (Row.ldImm (.reg q) n8) [Claims.opcode 0 (Claims.regCode q) 6, n8] ∧
    ∀ s, exec (Row.ldImm (.reg q) n8) s = .next (Claims.completed s (s.setReg q n8) (s.pcNext 2) 8)) ∧
  (∀ q, Claims.Encoded (Row.ld (.reg q) .atHL) [Claims.opcode 1 (Claims.regCode q) 6] ∧
    ∀ s, exec (Row.ld (.reg q) .atHL) s = .next (Claims.completed s (s.setReg q (s.readByte s.hl)) (s.pcNext 1) 8)) ∧
  (∀ r, Claims.Encoded (Row.ld .atHL (.reg r)) [Claims.opcode 1 6 (Claims.regCode r)] ∧
    ∀ s, exec (Row.ld .atHL (.reg r)) s = .next (Claims.completed s (s.writeByte s.hl (s.reg r)) (s.pcNext 1) 8)) ∧
  (∀ n8, Claims.Encoded (Row.ldImm .atHL n8) [0x36#8, n8] ∧
    ∀ s, exec (Row.ldImm .atHL n8) s = .next (Claims.completed s (s.writeByte s.hl n8) (s.pcNext 2) 12))

/-- O20. LD A,(BC), LD A,(DE), LD (BC),A, LD (DE),A, LD A,(a16), LD (a16),A, LDH A,(a8), LDH (a8),A, LD A,(C) and LD
(C),A have the encodings given and complete from every state: the byte at the mode's address goes to A, or A to
it, and everything else is kept. (stated; rules R205, R206, R207, R208, R209, R210, R211, R212, R213, R214.) -/
def Obligations.LoadAIndirect : Prop :=
  ∀ (s : State) (n8 m1 m2 : Byte),
    (Claims.Encoded .ldAAtBC [0x0A#8] ∧
      exec .ldAAtBC s = .next (Claims.completed s { s with a := s.readByte s.bc } (s.pcNext 1) 8)) ∧
    (Claims.Encoded .ldAAtDE [0x1A#8] ∧
      exec .ldAAtDE s = .next (Claims.completed s { s with a := s.readByte s.de } (s.pcNext 1) 8)) ∧
    (Claims.Encoded .ldAtBCA [0x02#8] ∧
      exec .ldAtBCA s = .next (Claims.completed s (s.writeByte s.bc s.a) (s.pcNext 1) 8)) ∧
    (Claims.Encoded .ldAtDEA [0x12#8] ∧
      exec .ldAtDEA s = .next (Claims.completed s (s.writeByte s.de s.a) (s.pcNext 1) 8)) ∧
    (Claims.Encoded (.ldAAtA16 m1 m2) [0xFA#8, m1, m2] ∧
      exec (.ldAAtA16 m1 m2) s =
        .next (Claims.completed s { s with a := s.readByte (s.imm16 m1 m2) } (s.pcNext 3) 16)) ∧
    (Claims.Encoded (.ldAtA16A m1 m2) [0xEA#8, m1, m2] ∧
      exec (.ldAtA16A m1 m2) s = .next (Claims.completed s (s.writeByte (s.imm16 m1 m2) s.a) (s.pcNext 3) 16)) ∧
    (Claims.Encoded (.ldhAAtA8 n8) [0xF0#8, n8] ∧
      exec (.ldhAAtA8 n8) s =
        .next (Claims.completed s { s with a := s.readByte (.ofNat 16 (0xFF00 + n8.toNat)) } (s.pcNext 2) 12)) ∧
    (Claims.Encoded (.ldhAtA8A n8) [0xE0#8, n8] ∧
      exec (.ldhAtA8A n8) s =
        .next (Claims.completed s (s.writeByte (.ofNat 16 (0xFF00 + n8.toNat)) s.a) (s.pcNext 2) 12)) ∧
    (Claims.Encoded .ldAAtC [0xF2#8] ∧
      exec .ldAAtC s =
        .next (Claims.completed s { s with a := s.readByte (.ofNat 16 (0xFF00 + s.c.toNat)) } (s.pcNext 1) 8)) ∧
    (Claims.Encoded .ldAtCA [0xE2#8] ∧
      exec .ldAtCA s =
        .next (Claims.completed s (s.writeByte (.ofNat 16 (0xFF00 + s.c.toNat)) s.a) (s.pcNext 1) 8))

/-- O21. The four forms have the encodings given and complete from every state: the byte at the old HL is stored to
from A, or read into A, then HL moves by one mod 2^16, and F and everything else is kept, at 8 cycles. (stated;
rules R215, R216, R217, R218.) -/
def Obligations.LoadAMovingHL : Prop :=
  ∀ s : State,
    (Claims.Encoded .ldAtHLIncA [0x22#8] ∧
      exec .ldAtHLIncA s = .next (Claims.completed s ((s.writeByte s.hl s.a).setHL (s.hl + 1)) (s.pcNext 1) 8)) ∧
    (Claims.Encoded .ldAtHLDecA [0x32#8] ∧
      exec .ldAtHLDecA s = .next (Claims.completed s ((s.writeByte s.hl s.a).setHL (s.hl - 1)) (s.pcNext 1) 8)) ∧
    (Claims.Encoded .ldAAtHLInc [0x2A#8] ∧
      exec .ldAAtHLInc s =
        .next (Claims.completed s ({ s with a := s.readByte s.hl }.setHL (s.hl + 1)) (s.pcNext 1) 8)) ∧
    (Claims.Encoded .ldAAtHLDec [0x3A#8] ∧
      exec .ldAAtHLDec s =
        .next (Claims.completed s ({ s with a := s.readByte s.hl }.setHL (s.hl - 1)) (s.pcNext 1) 8))

/-- O22. LD rr,d16 (Row.ldPair), LD SP,HL, INC rr (Row.incPair) and DEC rr (Row.decPair), all pairs, have the
encodings given and complete from every state: the pair gets the immediate word, HL's value, or its old value
plus or minus one mod 2^16, and F and everything else is kept. (stated; rules R220, R222, R264, R265.) -/
def Obligations.PairMoves : Prop :=
  (∀ p m1 m2, Claims.Encoded (Row.ldPair p m1 m2) [Claims.opcode 0 (2 * Claims.pairCode p) 1, m1, m2] ∧
    ∀ s, exec (Row.ldPair p m1 m2) s = .next (Claims.completed s (s.setPair p (s.imm16 m1 m2)) (s.pcNext 3) 12)) ∧
  (Claims.Encoded .ldSPHL [0xF9#8] ∧
    ∀ s, exec .ldSPHL s = .next (Claims.completed s { s with sp := joinBytes s.h s.l } (s.pcNext 1) 8)) ∧
  (∀ p, Claims.Encoded (Row.incPair p) [Claims.opcode 0 (2 * Claims.pairCode p) 3] ∧
    ∀ s, exec (Row.incPair p) s = .next (Claims.completed s (s.setPair p (s.pair p + 1)) (s.pcNext 1) 8)) ∧
  (∀ p, Claims.Encoded (Row.decPair p) [Claims.opcode 0 (2 * Claims.pairCode p + 1) 3] ∧
    ∀ s, exec (Row.decPair p) s = .next (Claims.completed s (s.setPair p (s.pair p - 1)) (s.pcNext 1) 8))

/-- O23. LD (a16),SP has the encoding given; when a16 is not 0xFFFF it completes, writing the byte at a16, then the
byte at a16+1, in the byte order of WORD_ORDER, every other piece of state kept, at 20 cycles; on the default
BUS with memory in canonical form the two bytes of SP stand there and every other byte reads as before; when a16
is 0xFFFF it raises AddressOutOfRange with no other effect. (stated; rules R221.) -/
def Obligations.StoreSP : Prop :=
  ∀ (m1 m2 : Byte), Claims.Encoded (.ldAtA16SP m1 m2) [0x08#8, m1, m2] ∧
    ∀ s : State,
      (s.imm16 m1 m2 ≠ 0xFFFF#16 → ∃ u, exec (.ldAtA16SP m1 m2) s = .next (Claims.completed s u (s.pcNext 3) 20) ∧
        u = (s.writeByte (s.imm16 m1 m2) (lowerByte s.cfg.wordOrder s.sp)).writeByte (s.imm16 m1 m2 + 1)
          (upperByte s.cfg.wordOrder s.sp) ∧
        (s.cfg.bus = .flat →
          (Memory.wf s.mem = true →
            u.readByte (s.imm16 m1 m2) = lowerByte s.cfg.wordOrder s.sp ∧
            u.readByte (s.imm16 m1 m2 + 1) = upperByte s.cfg.wordOrder s.sp) ∧
          (∀ a, a ≠ s.imm16 m1 m2 → a ≠ s.imm16 m1 m2 + 1 → u.readByte a = s.readByte a))) ∧
      (s.imm16 m1 m2 = 0xFFFF#16 → exec (.ldAtA16SP m1 m2) s = .next (Claims.faulted s .addressOutOfRange))

/-- O24. ADD SP,r8 and LD HL,SP+r8 have the encodings given and complete from every state: the sum of SP and the
sign-extended byte mod 2^16 goes to SP or HL (SP kept), Z and N are cleared, H is the carry out of bit 3 and C
the carry out of bit 7 of the unsigned low bytes, and everything else is kept, at 16 and 12 cycles. (stated;
rules R262, R266, R223.) -/
def Obligations.AddToSP : Prop :=
  ∀ (n8 : Byte),
    Claims.Encoded (.addSPR8 n8) [0xE8#8, n8] ∧ Claims.Encoded (.ldHLSPR8 n8) [0xF8#8, n8] ∧
    ∀ s : State,
      exec (.addSPR8 n8) s =
        .next (Claims.completed s
          ({ s with sp := s.sp + n8.signExtend 16 }.setFlags false false
            (decide (0xF < s.sp.toNat % 16 + n8.toNat % 16)) (decide (0xFF < s.sp.toNat % 256 + n8.toNat)))
          (s.pcNext 2) 16) ∧
      exec (.ldHLSPR8 n8) s =
        .next (Claims.completed s
          ((s.setHL (s.sp + n8.signExtend 16)).setFlags false false
            (decide (0xF < s.sp.toNat % 16 + n8.toNat % 16)) (decide (0xFF < s.sp.toNat % 256 + n8.toNat)))
          (s.pcNext 2) 12)

/-- O25. PUSH of BC, DE, HL and AF (Row.push) has the encodings given; when SP is not 0x0001 it completes: SP goes
down by two, the byte above the new SP is written, then the byte at the new SP, in the byte order of WORD_ORDER,
and every other piece of state is kept, at 16 cycles; on the default BUS with memory in canonical form the
pair's two bytes stand there and every other byte reads as before; when SP is 0x0001 it raises AddressOutOfRange
with no other effect. (stated; rules R224, R225.) -/
def Obligations.PushStoresPair : Prop :=
  ∀ q : QQ, Claims.Encoded (Row.push q) [Claims.opcode 3 (2 * Claims.stackPairCode q) 5] ∧
    ∀ s : State,
      (s.sp ≠ 0x0001#16 → ∃ u, exec (Row.push q) s = .next (Claims.completed s u (s.pcNext 1) 16) ∧
        u = Claims.pushed s (s.stackPair q) ∧
        (s.cfg.bus = .flat →
          (Memory.wf s.mem = true →
            u.readByte (s.sp - 2) = lowerByte s.cfg.wordOrder (s.stackPair q) ∧
            u.readByte (s.sp - 1) = upperByte s.cfg.wordOrder (s.stackPair q)) ∧
          (∀ a, a ≠ s.sp - 2 → a ≠ s.sp - 1 → u.readByte a = s.readByte a))) ∧
      (s.sp = 0x0001#16 → exec (Row.push q) s = .next (Claims.faulted s .addressOutOfRange))

/-- O26. POP of BC, DE, HL and AF (Row.pop) has the encodings given; when SP is not 0xFFFF it completes: the pair
gets the word at SP in the byte order of WORD_ORDER (for AF, F takes bits 7..4 of its low byte and zero below),
SP goes up by two and everything else is kept, at 12 cycles; when SP is 0xFFFF it raises AddressOutOfRange with
no other effect. (stated; rules R226, R227.) -/
def Obligations.PopLoadsPair : Prop :=
  ∀ q : QQ, Claims.Encoded (Row.pop q) [Claims.opcode 3 (2 * Claims.stackPairCode q) 1] ∧
    ∀ s : State,
      (s.sp ≠ 0xFFFF#16 → ∃ u, exec (Row.pop q) s = .next (Claims.completed s u (s.pcNext 1) 12) ∧
        u.sp = s.sp + 2 ∧ u.mem = s.mem ∧ u.device = s.device ∧
        (match q with
          | .bc => u = { s with sp := u.sp, b := u.b, c := u.c } ∧ u.bc = Claims.wordAt s s.sp
          | .de => u = { s with sp := u.sp, d := u.d, e := u.e } ∧ u.de = Claims.wordAt s s.sp
          | .hl => u = { s with sp := u.sp, h := u.h, l := u.l } ∧ u.hl = Claims.wordAt s s.sp
          | .af => u = { s with sp := u.sp, a := u.a, f := u.f } ∧ u.af = Claims.wordAt s s.sp &&& 0xFFF0#16)) ∧
      (s.sp = 0xFFFF#16 → exec (Row.pop q) s = .next (Claims.faulted s .addressOutOfRange))

/-- O27. From any state, push16 succeeds exactly when SP is not 0x0001, moving SP down by exactly two, and pop16
exactly when SP is not 0xFFFF, moving SP up by exactly two; on the default BUS with memory in canonical form, a
pop right after a push gives the pushed word and the original SP, whichever pairs are used (F's low nibble
apart). (stated; rules R219.) -/
def Obligations.PushThenPop : Prop :=
  ∀ (s : State),
    (∀ v, s.sp ≠ 0x0001#16 → ∃ t, s.push16 v = .ok t ∧ t.sp = s.sp - 2) ∧
    (∀ v, s.cfg.bus = .flat → Memory.wf s.mem = true → s.sp ≠ 0x0001#16 →
      ∃ t u, s.push16 v = .ok t ∧ t.pop16 = .ok (v, u) ∧ u.sp = s.sp) ∧
    (∀ v, s.sp = 0x0001#16 → s.push16 v = .error .addressOutOfRange) ∧
    (s.sp ≠ 0xFFFF#16 → ∃ v u, s.pop16 = .ok (v, u) ∧ u.sp = s.sp + 2) ∧
    (s.sp = 0xFFFF#16 → s.pop16 = .error .addressOutOfRange) ∧
    (∀ p q, s.cfg.bus = .flat → Memory.wf s.mem = true → s.sp ≠ 0x0001#16 → ∃ t u, exec (Row.push p) s = .next t ∧ exec (Row.pop q) t = .next u ∧
      t.sp = s.sp - 2 ∧ u.sp = s.sp ∧
      u.stackPair q = (if q = .af then s.stackPair p &&& 0xFFF0#16 else s.stackPair p))

/-- O28. Whatever BUS is, a byte write leaves every piece of state but memory and the device behind BUS as it was, a
word read below 0xFFFF joins the two bytes there, and a word write makes two byte writes, the lower address
first or, for a push, last. On the default BUS with memory in canonical form, a byte written reads back and
every other byte reads as before; below 0xFFFF a word write of either order of writes gives the same state, with
the low byte first under LittleEndian and the high byte first under BigEndian, every other byte as before and
memory still canonical, and a word read gives the word back; at 0xFFFF reads and writes raise AddressOutOfRange.
The canonical form of memory and the device behind BUS are the model's own (log 6). (derived; rules R82, R84,
R14, R81, R88.) -/
def Obligations.WordAccess : Prop :=
  ∀ (s : State) (a v : Word),
    (∀ x, s.writeByte a x = { s with mem := (s.writeByte a x).mem, device := (s.writeByte a x).device }) ∧
    (a ≠ 0xFFFF#16 → s.readWord a = .ok (Claims.wordAt s a) ∧
      s.writeWordUp a v = .ok (s.writeBytes
        [(a, lowerByte s.cfg.wordOrder v), (a + 1, upperByte s.cfg.wordOrder v)]) ∧
      s.writeWordDown a v = .ok (s.writeBytes
        [(a + 1, upperByte s.cfg.wordOrder v), (a, lowerByte s.cfg.wordOrder v)])) ∧
    (s.cfg.bus = .flat → Memory.wf s.mem = true →
      ∀ x, (s.writeByte a x).readByte a = x ∧ ∀ b, b ≠ a → (s.writeByte a x).readByte b = s.readByte b) ∧
    (s.cfg.bus = .flat → Memory.wf s.mem = true → a ≠ 0xFFFF#16 → ∃ t, s.writeWordUp a v = .ok t ∧ s.writeWordDown a v = .ok t ∧ t.readWord a = .ok v ∧
      (s.cfg.wordOrder = .littleEndian →
        (t.readByte a).toNat = v.toNat % 256 ∧ (t.readByte (a + 1)).toNat = v.toNat / 256) ∧
      (s.cfg.wordOrder = .bigEndian →
        (t.readByte a).toNat = v.toNat / 256 ∧ (t.readByte (a + 1)).toNat = v.toNat % 256) ∧
      (∀ b, b ≠ a → b ≠ a + 1 → t.readByte b = s.readByte b) ∧ Memory.wf t.mem = true) ∧
    (a = 0xFFFF#16 → s.readWord a = .error .addressOutOfRange ∧
      s.writeWordUp a v = .error .addressOutOfRange ∧ s.writeWordDown a v = .error .addressOutOfRange)

/-- O29. ADD A,s and ADC A,s, for s a register, the byte at HL and an immediate, have the encodings given and
complete from every state: A gets A + s, plus the old C for ADC, mod 256; Z is set on a zero result, N cleared,
H and C are the carries out of bits 3 and 7; everything else is kept, at 4, 8 and 8 cycles. (stated; rules R230,
R231, R232, R233, R234, R235.) -/
def Obligations.AddAndAdc : Prop :=
  Claims.AluForms .add (fun s v => Claims.addInto s v false) ∧
  Claims.AluForms .adc (fun s v => Claims.addInto s v s.flagC)

/-- O30. SUB s, SBC A,s and CP s, for s a register, the byte at HL and an immediate, have the encodings given and
complete from every state: A gets A - s, less the old C for SBC, mod 256, and is kept by CP; Z is set when the
difference is zero mod 256, N set, H and C are the borrows into bits 3 and 7; everything else is kept, at 4, 8
and 8 cycles. (stated; rules R236, R237, R238, R239, R240, R241, R251, R252, R253.) -/
def Obligations.SubSbcAndCp : Prop :=
  Claims.AluForms .sub (fun s v => Claims.subFrom s v false) ∧
  Claims.AluForms .sbc (fun s v => Claims.subFrom s v s.flagC) ∧
  Claims.AluForms .cp Claims.compareWith

/-- O31. AND s, XOR s and OR s, for s a register, the byte at HL and an immediate, have the encodings given and
complete from every state: A gets the bitwise result, Z is set when it is zero, N and C are cleared, H is set by
AND and cleared by XOR and OR, everything else is kept, at 4, 8 and 8 cycles. (stated; rules R242, R243, R244,
R245, R246, R247, R248, R249, R250.) -/
def Obligations.AndXorOr : Prop :=
  Claims.AluForms .and (fun s v => Claims.logicInto s (s.a &&& v) true) ∧
  Claims.AluForms .xor (fun s v => Claims.logicInto s (s.a ^^^ v) false) ∧
  Claims.AluForms .or (fun s v => Claims.logicInto s (s.a ||| v) false)

/-- O32. INC r, INC (HL), DEC r and DEC (HL) (Row.inc, Row.dec) have the encodings given and complete from every
state: the operand moves by one mod 256, Z is set on a zero result, N is 0 for INC and 1 for DEC, H is set when
INC found a low nibble of 15 or DEC a low nibble of 0, C and everything else is kept, at 4 cycles, 12 for (HL).
(stated; rules R254, R255, R256, R257.) -/
def Obligations.IncAndDecByte : Prop :=
  (∀ r, Claims.Encoded (Row.inc (.reg r)) [Claims.opcode 0 (Claims.regCode r) 4] ∧
    Claims.Encoded (Row.dec (.reg r)) [Claims.opcode 0 (Claims.regCode r) 5] ∧
    ∀ s : State,
      exec (Row.inc (.reg r)) s = .next (Claims.completed s
        ((s.setReg r (s.reg r + 1)).setFlags (s.reg r == 0xFF#8) false (s.reg r &&& 0x0F#8 == 0x0F#8) s.flagC)
        (s.pcNext 1) 4) ∧
      exec (Row.dec (.reg r)) s = .next (Claims.completed s
        ((s.setReg r (s.reg r - 1)).setFlags (s.reg r == 0x01#8) true (s.reg r &&& 0x0F#8 == 0x00#8) s.flagC)
        (s.pcNext 1) 4)) ∧
  Claims.Encoded .incAtHL [0x34#8] ∧ Claims.Encoded .decAtHL [0x35#8] ∧
  ∀ s : State,
    exec .incAtHL s = .next (Claims.completed s
      ((s.writeByte s.hl (s.readByte s.hl + 1)).setFlags (s.readByte s.hl == 0xFF#8) false
        (s.readByte s.hl &&& 0x0F#8 == 0x0F#8) s.flagC)
      (s.pcNext 1) 12) ∧
    exec .decAtHL s = .next (Claims.completed s
      ((s.writeByte s.hl (s.readByte s.hl - 1)).setFlags (s.readByte s.hl == 0x01#8) true
        (s.readByte s.hl &&& 0x0F#8 == 0x00#8) s.flagC)
      (s.pcNext 1) 12)

/-- O33. DAA has the encoding given and completes from every state: A and C are what the rule's steps on the integer
A give, A mod 256, Z is set on a zero result, N is kept, H is cleared, everything else is kept, at 4 cycles.
(stated; rules R258.) -/
def Obligations.DecimalAdjust : Prop :=
  Claims.Encoded .daa [0x27#8] ∧
  ∀ s : State,
    let x := Claims.daaSteps s.a.toNat s.flagN s.flagH s.flagC
    exec .daa s = .next (Claims.completed s
      ({ s with a := .ofInt 8 (x.1 % 256) }.setFlags (x.1 % 256 == 0) s.flagN false x.2) (s.pcNext 1) 4)

/-- O34. For all x and y below 100, with A holding x in decimal digits, ADD A,y in decimal digits followed by DAA
leaves x + y mod 100 in decimal digits with C = 1 exactly when x + y reaches 100, and SUB followed by DAA leaves
x - y mod 100 with C = 1 exactly when x < y. (derived; rules R232, R238, R258.) -/
def Obligations.DaaMakesDecimal : Prop :=
  ∀ (s : State) (x y : Nat), x < 100 → y < 100 → s.a = Claims.bcd x →
    (∃ t u, exec (.addAD8 (Claims.bcd y)) s = .next t ∧ exec .daa t = .next u ∧
      u.a = Claims.bcd ((x + y) % 100) ∧ u.flagC = decide (100 ≤ x + y)) ∧
    (∃ t u, exec (.subD8 (Claims.bcd y)) s = .next t ∧ exec .daa t = .next u ∧
      u.a = Claims.bcd ((x + 100 - y) % 100) ∧ u.flagC = decide (x < y))

/-- O35. CPL, SCF and CCF have the encodings given and complete from every state: CPL complements A, sets N and H
and keeps Z and C; SCF sets C, CCF complements it, both clear N and H and keep Z; everything else is kept, at 4
cycles. (stated; rules R259, R260, R261.) -/
def Obligations.ComplementAndCarry : Prop :=
  Claims.Encoded .cpl [0x2F#8] ∧ Claims.Encoded .scf [0x37#8] ∧ Claims.Encoded .ccf [0x3F#8] ∧
  ∀ s : State,
    exec .cpl s = .next (Claims.completed s
      ({ s with a := s.a ^^^ 0xFF#8 }.setFlags s.flagZ true true s.flagC) (s.pcNext 1) 4) ∧
    exec .scf s = .next (Claims.completed s (s.setFlags s.flagZ false false true) (s.pcNext 1) 4) ∧
    exec .ccf s = .next (Claims.completed s (s.setFlags s.flagZ false false (!s.flagC)) (s.pcNext 1) 4)

/-- O36. ADD HL,rr for BC, DE, HL and SP (Row.addHL) has the encodings given and completes from every state: HL gets
the sum mod 2^16, Z is kept, N cleared, H and C are the carries out of bits 11 and 15, everything else is kept,
at 8 cycles. (stated; rules R263.) -/
def Obligations.AddHL : Prop :=
  ∀ p : RR, Claims.Encoded (Row.addHL p) [Claims.opcode 0 (2 * Claims.pairCode p + 1) 1] ∧
    ∀ s : State, exec (Row.addHL p) s = .next (Claims.completed s
      ((s.setHL (s.hl + s.pair p)).setFlags s.flagZ false
        (decide (0x0FFF < s.hl.toNat % 0x1000 + (s.pair p).toNat % 0x1000))
        (decide (0xFFFF < s.hl.toNat + (s.pair p).toNat)))
      (s.pcNext 1) 8)

/-- O37. The four rotates of A have the encodings given and complete from every state: A gets the rotated byte,
through C for RLA and RRA, C gets the bit rotated out, Z, N and H are cleared even on a zero result, everything
else is kept, at 4 cycles. (stated; rules R270, R271, R272, R273.) -/
def Obligations.RotateA : Prop :=
  Claims.Encoded .rlca [0x07#8] ∧ Claims.Encoded .rrca [0x0F#8] ∧ Claims.Encoded .rla [0x17#8] ∧
  Claims.Encoded .rra [0x1F#8] ∧
  ∀ s : State,
    exec .rlca s = .next (Claims.completed s
      ({ s with a := s.a.rotateLeft 1 }.setFlags false false false (s.a.getLsbD 7)) (s.pcNext 1) 4) ∧
    exec .rrca s = .next (Claims.completed s
      ({ s with a := s.a.rotateRight 1 }.setFlags false false false (s.a.getLsbD 0)) (s.pcNext 1) 4) ∧
    exec .rla s = .next (Claims.completed s
      ({ s with a := (s.a <<< 1) ||| Claims.carryByte s.flagC }.setFlags false false false (s.a.getLsbD 7))
      (s.pcNext 1) 4) ∧
    exec .rra s = .next (Claims.completed s
      ({ s with a := (s.a >>> 1) ||| (Claims.carryByte s.flagC <<< 7) }.setFlags false false false (s.a.getLsbD 0))
      (s.pcNext 1) 4)

/-- O38. All 64 CB rotates, shifts and SWAPs (Row.shift) have the encodings given and complete from every state: the
operand, a register or the byte at HL, gets the table's result, C the table's carry-out, Z is set on a zero
result, N and H are cleared, everything else is kept, at 8 cycles, 16 for (HL). (stated; rules R269, R274, R275,
R276, R277, R278, R279, R280, R281, R282, R283, R284, R285, R286, R287, R288, R289.) -/
def Obligations.ShiftRegister : Prop :=
  ∀ op : ShiftOp, Claims.ShiftForms op (Claims.shiftResult op)

/-- O39. BIT b,r and BIT b,(HL) (Row.bit, all 64) have the encodings given and complete from every state: Z is the
complement of the tested bit, N is cleared, H set, C, the operand and everything else is kept, at 8 cycles, 12
for (HL). (stated; rules R290, R291.) -/
def Obligations.TestBit : Prop :=
  ∀ b : Fin 8,
    (∀ r, Claims.Encoded (Row.bit b (.reg r)) [0xCB#8, Claims.opcode 1 b.val (Claims.regCode r)] ∧
      ∀ s, exec (Row.bit b (.reg r)) s = .next (Claims.completed s
        (s.setFlags (!(s.reg r).getLsbD b.val) false true s.flagC) (s.pcNext 2) 8)) ∧
    (Claims.Encoded (Row.bit b .atHL) [0xCB#8, Claims.opcode 1 b.val 6] ∧
      ∀ s, exec (Row.bit b .atHL) s = .next (Claims.completed s
        (s.setFlags (!(s.readByte s.hl).getLsbD b.val) false true s.flagC) (s.pcNext 2) 12))

/-- O40. RES b and SET b of a register and of the byte at HL (Row.res, Row.set, all 128) have the encodings given
and complete from every state: the operand gets a byte whose bit b is 0 for RES and 1 for SET and whose other
bits are the old ones; F and everything else is kept, at 8 cycles, 16 for (HL). (stated; rules R292, R293, R294,
R295.) -/
def Obligations.ResetAndSetBit : Prop :=
  ∀ b : Fin 8,
    (∀ r, Claims.Encoded (Row.res b (.reg r)) [0xCB#8, Claims.opcode 2 b.val (Claims.regCode r)] ∧
      Claims.Encoded (Row.set b (.reg r)) [0xCB#8, Claims.opcode 3 b.val (Claims.regCode r)] ∧
      ∀ s, (∃ v, exec (Row.res b (.reg r)) s = .next (Claims.completed s (s.setReg r v) (s.pcNext 2) 8) ∧
          ∀ k < 8, v.getLsbD k = (k != b.val && (s.reg r).getLsbD k)) ∧
        (∃ v, exec (Row.set b (.reg r)) s = .next (Claims.completed s (s.setReg r v) (s.pcNext 2) 8) ∧
          ∀ k < 8, v.getLsbD k = (k == b.val || (s.reg r).getLsbD k))) ∧
    Claims.Encoded (Row.res b .atHL) [0xCB#8, Claims.opcode 2 b.val 6] ∧
    Claims.Encoded (Row.set b .atHL) [0xCB#8, Claims.opcode 3 b.val 6] ∧
    ∀ s : State,
      (∃ v, exec (Row.res b .atHL) s = .next (Claims.completed s (s.writeByte s.hl v) (s.pcNext 2) 16) ∧
        ∀ k < 8, v.getLsbD k = (k != b.val && (s.readByte s.hl).getLsbD k)) ∧
      (∃ v, exec (Row.set b .atHL) s = .next (Claims.completed s (s.writeByte s.hl v) (s.pcNext 2) 16) ∧
        ∀ k < 8, v.getLsbD k = (k == b.val || (s.readByte s.hl).getLsbD k))

/-- O41. The jumps (JP a16, Row.jpIf, JP HL, JR r8, Row.jrIf) have the encodings given and complete from every
state: a taken one leaves PC at its target, absolute, HL, or the next instruction's address plus the sign-
extended byte mod 2^16; one whose condition on Z or C is false leaves PC at the next instruction; nothing else
changes but the cycles, 16, 16 or 12, 4, 12, and 12 or 8. (stated; rules R299, R300, R301, R302, R303, R304.) -/
def Obligations.Jumps : Prop :=
  ∀ (s : State) (cc : Cond) (n8 m1 m2 : Byte),
    (Claims.Encoded (.jpA16 m1 m2) [0xC3#8, m1, m2] ∧
      exec (.jpA16 m1 m2) s = .next (Claims.completed s s (s.imm16 m1 m2) 16)) ∧
    (Claims.Encoded (Row.jpIf cc m1 m2) [Claims.opcode 3 (Claims.condCode cc) 2, m1, m2] ∧
      exec (Row.jpIf cc m1 m2) s = .next
        (if Claims.holds cc s.f then Claims.completed s s (s.imm16 m1 m2) 16
         else Claims.completed s s (s.pcNext 3) 12)) ∧
    (Claims.Encoded .jpHL [0xE9#8] ∧ exec .jpHL s = .next (Claims.completed s s (joinBytes s.h s.l) 4)) ∧
    (Claims.Encoded (.jrR8 n8) [0x18#8, n8] ∧
      exec (.jrR8 n8) s = .next (Claims.completed s s (s.pcNext 2 + n8.signExtend 16) 12)) ∧
    (Claims.Encoded (Row.jrIf cc n8) [Claims.opcode 0 (4 + Claims.condCode cc) 0, n8] ∧
      exec (Row.jrIf cc n8) s = .next
        (if Claims.holds cc s.f then Claims.completed s s (s.pcNext 2 + n8.signExtend 16) 12
         else Claims.completed s s (s.pcNext 2) 8))

/-- O42. CALL a16, CALL cc,a16 (Row.callIf) and RST n (Row.rst) have the encodings given; with SP not 0x0001 they
complete, pushing the next instruction's address and going to a16 or 8k, at 24, 24 and 16 cycles; a CALL cc
whose condition is false completes at 12 cycles whatever SP is, changing nothing else; with SP = 0x0001 the
pushing ones raise AddressOutOfRange with no other effect; RST of a value that is no restart target raises
InvalidOperand. (stated; rules R305, R306, R310.) -/
def Obligations.CallsAndRestarts : Prop :=
  (∀ (s : State) (cc : Cond) (m1 m2 : Byte),
    (Claims.Encoded (.callA16 m1 m2) [0xCD#8, m1, m2] ∧
      exec (.callA16 m1 m2) s = .next
        (if s.sp = 0x0001#16 then Claims.faulted s .addressOutOfRange
         else Claims.completed s (Claims.pushed s (s.pcNext 3)) (s.imm16 m1 m2) 24)) ∧
    (Claims.Encoded (Row.callIf cc m1 m2) [Claims.opcode 3 (Claims.condCode cc) 4, m1, m2] ∧
      exec (Row.callIf cc m1 m2) s = .next
        (if Claims.holds cc s.f then
          (if s.sp = 0x0001#16 then Claims.faulted s .addressOutOfRange
           else Claims.completed s (Claims.pushed s (s.pcNext 3)) (s.imm16 m1 m2) 24)
         else Claims.completed s s (s.pcNext 3) 12))) ∧
  (∀ (s : State) (k : Fin 8),
    (Claims.Encoded (Row.rst k) [Claims.opcode 3 k.val 7] ∧
      exec (Row.rst k) s = .next
        (if s.sp = 0x0001#16 then Claims.faulted s .addressOutOfRange
         else Claims.completed s (Claims.pushed s (s.pcNext 1)) (.ofNat 16 (8 * k.val)) 16))) ∧
  (∀ (s : State) (n : Nat), (¬ ∃ k : Fin 8, n = 8 * k.val) →
    rstStep n s = .next (Claims.faulted s .invalidOperand))

/-- O43. RET, RET cc (Row.retIf) and RETI have the encodings given; with SP not 0xFFFF they complete, PC getting the
word at SP and SP going up by two, RETI setting IME at once, at 16, 20 and 16 cycles; a RET cc whose condition
is false completes at 8 cycles whatever SP is, changing nothing else; with SP = 0xFFFF the popping ones raise
AddressOutOfRange with no other effect, IME not changed. (stated; rules R307, R308, R309.) -/
def Obligations.Returns : Prop :=
  ∀ (s : State) (cc : Cond),
    (Claims.Encoded .ret [0xC9#8] ∧
      exec .ret s = .next
        (if s.sp = 0xFFFF#16 then Claims.faulted s .addressOutOfRange
         else Claims.completed s { s with sp := s.sp + 2 } (Claims.wordAt s s.sp) 16)) ∧
    (Claims.Encoded (Row.retIf cc) [Claims.opcode 3 (Claims.condCode cc) 0] ∧
      exec (Row.retIf cc) s = .next
        (if Claims.holds cc s.f then
          (if s.sp = 0xFFFF#16 then Claims.faulted s .addressOutOfRange
           else Claims.completed s { s with sp := s.sp + 2 } (Claims.wordAt s s.sp) 20)
         else Claims.completed s s (s.pcNext 1) 8)) ∧
    (Claims.Encoded .reti [0xD9#8] ∧
      exec .reti s = .next
        (if s.sp = 0xFFFF#16 then Claims.faulted s .addressOutOfRange
         else { Claims.completed s { s with sp := s.sp + 2 } (Claims.wordAt s s.sp) 16 with ime := true }))

/-- O44. NOP, STOP, DI, EI and HALT have the encodings given and complete from every state at 4 cycles, PC moving
past them: NOP does nothing else; STOP sets stopped, whatever its second byte; DI clears IME and cancels a
pending enable; EI leaves IME as a NOP would and arms the enable for the end of the next instruction; HALT sets
halted, or, with HALT_BUG, IME = 0 and an interrupt pending, haltbug instead. (stated; rules R320, R321, R322,
R323, R324.) -/
def Obligations.CpuControl : Prop :=
  ∀ (s : State) (pad : Byte),
    (Claims.Encoded .nop [0x00#8] ∧ exec .nop s = .next (Claims.completed s s (s.pcNext 1) 4)) ∧
    (Claims.Encoded (.stop pad) [0x10#8, pad] ∧
      exec (.stop pad) s = .next (Claims.completed s { s with stopped := true } (s.pcNext 2) 4)) ∧
    (Claims.Encoded .di [0xF3#8] ∧
      exec .di s = .next { Claims.completed s s (s.pcNext 1) 4 with ime := false }) ∧
    (Claims.Encoded .ei [0xFB#8] ∧
      exec .ei s = .next { Claims.completed s s (s.pcNext 1) 4 with eiArmed := true }) ∧
    (Claims.Encoded .halt [0x76#8] ∧
      exec .halt s = .next
        (if s.cfg.haltBug = true ∧ s.ime = false ∧
            s.readByte 0xFFFF#16 &&& s.readByte 0xFF0F#16 &&& 0x1F#8 ≠ 0#8 then
          { Claims.completed s s (s.pcNext 1) 4 with haltbug := true }
         else Claims.completed s { s with halted := true } (s.pcNext 1) 4))

/-- O45. A 0xCB byte with the byte after it decodes to the CB-table instruction of that byte and never to the prefix
row, which is not well formed; 0xCB alone does not decode; executed with the byte after it, the prefix row gives
what the CB-table instruction gives, a next state. That the prefix row is a term of its own, ill formed, that
carries the byte after it and does what the two bytes do is the model's choice (log 8). Each of the eleven
illegal bytes decodes to its own illegal row, and executing that row in any state leaves everything as it was
but the recorded fault (InvalidOperand, pc). (derived; rules R325, R326.) -/
def Obligations.PrefixAndIllegalRows : Prop :=
  (∀ (op : Byte) (rest : List Byte) (s : State),
    decode (0xCB#8 :: op :: rest) = .ok (decodeCB op, rest) ∧ (decodeCB op).wf = true ∧
    encode (decodeCB op) = [0xCB#8, op] ∧ (Instr.prefixCB op).wf = false ∧
    decode [0xCB#8] = .error .noCBByte ∧ decodeCB 0xCB#8 = .set1E ∧ decodeCB 0x37#8 = .swapA ∧
    exec (.prefixCB op) s = exec (decodeCB op) s ∧ ∃ t, exec (.prefixCB op) s = .next t) ∧
  Row.illegals.length = 11 ∧
  (∀ i ∈ Row.illegals, Claims.illegalOpcodes.contains i.spec.value.toNat = true ∧
    Claims.Encoded i [i.spec.value] ∧ ∀ s : State, exec i s = .next (Claims.faulted s .invalidOperand)) ∧
  (∀ v : Byte, Claims.illegalOpcodes.contains v.toNat = true → ∃ i ∈ Row.illegals, i.spec.value = v)

/-- O46. State.reset holds the PostBoot register values, the control state and the PPU state of the reset table, and
memory reads each of the twenty PostBoot bytes at 0xFF00..0xFFFF (Claims.bootBytes). That State.reset takes the
PostBoot profile (log 1) and reads 0x00 at OBP0 and OBP1 (log 3) are the model's choices. (derived; rules R59,
R501, R503.) -/
def Obligations.ResetState : Prop :=
  State.reset.a = 0x01#8 ∧ State.reset.f = 0xB0#8 ∧ State.reset.b = 0x00#8 ∧ State.reset.c = 0x13#8 ∧
  State.reset.d = 0x00#8 ∧ State.reset.e = 0xD8#8 ∧ State.reset.h = 0x01#8 ∧ State.reset.l = 0x4D#8 ∧
  State.reset.sp = 0xFFFE#16 ∧ State.reset.pc = 0x0100#16 ∧ State.reset.ime = false ∧ State.reset.eiArmed = false ∧
  State.reset.halted = false ∧ State.reset.stopped = false ∧ State.reset.haltbug = false ∧ State.reset.fault = none ∧
  State.reset.cycles = 0 ∧ State.reset.dot = 0 ∧ State.reset.ly = 0 ∧ State.reset.mode = .oamSearch ∧
  State.reset.lines = [] ∧ State.reset.frameSlot = none ∧ State.reset.statLine = false ∧
  (∀ c ∈ Claims.bootBytes, State.reset.readByte c.1 = c.2) ∧
  State.reset.readByte 0xFF48#16 = 0x00#8 ∧ State.reset.readByte 0xFF49#16 = 0x00#8

/-- O47. From any state, PowerOn leaves PC = 0x0000, the registers at their draws with F's low nibble zero, and
memory untouched; PostBoot leaves the registers of the reset table and, on the default BUS with memory in
canonical form, the twenty listed bytes of memory at their values (Claims.bootBytes) and every other byte
untouched; both set IME, ei_armed, halted, stopped, haltbug, cycles and the PPU to their reset values. (stated;
rules R501, R502.) -/
def Obligations.ResetProfiles : Prop :=
  ∀ (s : State) (d : PowerOnDraw),
    (∀ p t, t = hostReset p d s →
      t.ime = false ∧ t.eiArmed = false ∧ t.halted = false ∧ t.stopped = false ∧ t.haltbug = false ∧ t.fault = none ∧
      t.cycles = 0 ∧ t.dot = 0 ∧ t.ly = 0 ∧ t.mode = .oamSearch ∧ t.lines = [] ∧ t.frameSlot = none ∧
      t.statLine = false ∧ t.f &&& 0x0F#8 = 0#8) ∧
    (∀ t, t = hostReset .powerOn d s →
      t.pc = 0x0000#16 ∧ t.a = d.a ∧ t.f &&& 0xF0#8 = d.f &&& 0xF0#8 ∧ t.b = d.b ∧ t.c = d.c ∧ t.d = d.d ∧ t.e = d.e ∧
      t.h = d.h ∧ t.l = d.l ∧ t.sp = d.sp ∧ t.mem = s.mem ∧ t.device = s.device) ∧
    (∀ t, t = hostReset .postBoot d s →
      t.pc = 0x0100#16 ∧ t.af = 0x01B0#16 ∧ t.bc = 0x0013#16 ∧ t.de = 0x00D8#16 ∧ t.hl = 0x014D#16 ∧ t.sp = 0xFFFE#16 ∧
      (s.cfg.bus = .flat → Memory.wf s.mem = true →
        (∀ c ∈ Claims.bootBytes, t.readByte c.1 = c.2) ∧
        (∀ a, a ∉ Claims.bootBytes.map Prod.fst → t.readByte a = s.readByte a) ∧ Memory.wf t.mem = true))

/-- O48. State.reset has canonical memory, F with a zero low nibble, no halt bug, at most one sleeping state, the
PPU on the mode grid and no unfinished line. (derived; rules R33, R42, R46, R451, R471.) -/
def Obligations.ResetMeetsInvariant : Prop :=
  Inv State.reset

/-- O49. From every state that meets the invariant (canonical memory, F's low nibble zero, haltbug only under
HALT_BUG, at most one of halted and stopped, dot, ly and mode on the grid, the right number of full scanlines in
progress, and a full frame in the slot), a step that gives a next state gives one that meets it. (derived; rules
R33, R42, R46, R451, R454, R456, R471.) -/
def Obligations.StepKeepsInvariant : Prop :=
  ∀ s t : State, Inv s → step s = .next t → Inv t

/-- O50. From a state on the mode grid, a tick moves the position in the 70,224-tick frame on by one and stays on
the grid; the tick that makes dot 80 of a visible line appends that line, composited from memory as it then is;
the tick that ends line 143 empties the lines; no other tick changes them. (stated; rules R451, R456.) -/
def Obligations.TickMovesOn : Prop :=
  ∀ s : State, Claims.OnGrid s →
    Claims.OnGrid (ppuTick s) ∧ (ppuTick s).framePosition = (s.framePosition + 1) % 70224 ∧
    (ppuTick s).lines =
      (if s.ly < 144 ∧ s.dot = 79 then s.lines ++ [composite s s.ly]
       else if s.ly = 143 ∧ s.dot = 455 then [] else s.lines)

/-- O51. After a tick on the default BUS with memory in canonical form, the LY byte is ly, and the STAT byte has its
bits 7..3 as before, bit 2 set exactly when ly equals LYC, and bits 1..0 the mode code. (stated; rules R457.) -/
def Obligations.TickMirrorsRegisters : Prop :=
  ∀ s : State, s.cfg.bus = .flat → Memory.wf s.mem = true →
    let t := ppuTick s
    t.readByte 0xFF44#16 = .ofNat 8 t.ly ∧
    t.readByte 0xFF41#16 &&& 0xF8#8 = s.readByte 0xFF41#16 &&& 0xF8#8 ∧
    (t.readByte 0xFF41#16).getLsbD 2 = decide (t.ly = (t.readByte 0xFF45#16).toNat) ∧
    t.readByte 0xFF41#16 &&& 0x03#8 =
      (match t.mode with | .hBlank => 0#8 | .vBlank => 1#8 | .oamSearch => 2#8 | .pixelDrawing => 3#8)

/-- O52. The tick that wraps line 143 sets ly = 144 and mode = VBlank, offers the lines to the hand-off slot (stored
if the slot is empty and the consumer, a free value, is ready; dropped otherwise, an occupied slot being kept),
empties the lines and, on the default BUS with memory in canonical form, sets IF bit 0. That readiness is a free
value drawn at the count of frames offered is the model's choice (log 5). (derived; rules R454, R443, R458.) -/
def Obligations.VBlankEntry : Prop :=
  ∀ s : State, s.ly = 143 → s.dot = 455 →
    let t := ppuTick s
    t.ly = 144 ∧ t.dot = 0 ∧ t.mode = .vBlank ∧ t.lines = [] ∧
    (s.cfg.bus = .flat → Memory.wf s.mem = true → (t.readByte 0xFF0F#16).getLsbD 0 = true) ∧
    (s.frameSlot = none → Config.consumerReady s.emitted = true → t.frameSlot = some s.lines) ∧
    (s.frameSlot = none → Config.consumerReady s.emitted = false → t.frameSlot = none) ∧
    (∀ fr, s.frameSlot = some fr → t.frameSlot = some fr)

/-- O53. Whatever BUS is, after the transitions of a tick LY is written, then STAT with bit 2 the compare of ly with
the LYC byte and bits 1..0 the mode code, and the STAT condition is made of the byte just written, that compare
and the mode: it becomes stat_line, and if it rose, IF is written with bit 1 ORed in; nothing else happens.
After a tick on the default BUS with memory in canonical form, stat_line is the STAT condition of the STAT byte
and mode just written; IF bit 1 is set if it was or if the condition rose; IF bit 0 is set if it was or if the
tick ended line 143; and IF bits 7..2 are as before. (stated; rules R458, R459.) -/
def Obligations.RequestBits : Prop :=
  (∀ s : State,
    let u := advanceDot s
    let w := u.writeByte 0xFF44#16 (.ofNat 8 u.ly)
    let coinc := decide (u.ly = (w.readByte 0xFF45#16).toNat)
    let stat := (w.readByte 0xFF41#16 &&& 0xF8#8) ||| (if coinc then 0x04#8 else 0x00#8) |||
      (match u.mode with | .hBlank => 0#8 | .vBlank => 1#8 | .oamSearch => 2#8 | .pixelDrawing => 3#8)
    let line := (stat.getLsbD 6 && coinc) || (stat.getLsbD 5 && decide (u.mode = .oamSearch)) ||
      (stat.getLsbD 4 && decide (u.mode = .vBlank)) || (stat.getLsbD 3 && decide (u.mode = .hBlank))
    let t := w.writeByte 0xFF41#16 stat
    ppuTick s =
      { (if line = true ∧ s.statLine = false then t.writeByte 0xFF0F#16 (t.readByte 0xFF0F#16 ||| 0x02#8) else t) with
        statLine := line }) ∧
  ∀ s : State, s.cfg.bus = .flat → Memory.wf s.mem = true →
    let t := ppuTick s
    let b := t.readByte 0xFF41#16
    let line := (b.getLsbD 6 && decide (t.ly = (t.readByte 0xFF45#16).toNat)) ||
      (b.getLsbD 5 && decide (t.mode = .oamSearch)) || (b.getLsbD 4 && decide (t.mode = .vBlank)) ||
      (b.getLsbD 3 && decide (t.mode = .hBlank))
    t.statLine = line ∧
    (t.readByte 0xFF0F#16).getLsbD 1 = ((s.readByte 0xFF0F#16).getLsbD 1 || (line && !s.statLine)) ∧
    (t.readByte 0xFF0F#16).getLsbD 0 = ((s.readByte 0xFF0F#16).getLsbD 0 || decide (s.ly = 143 ∧ s.dot = 455)) ∧
    t.readByte 0xFF0F#16 &&& 0xFC#8 = s.readByte 0xFF0F#16 &&& 0xFC#8

/-- O54. A tick leaves every register, the control state, the recorded fault, the cycle counter, the breakpoint and
the parameters as they were, and on the default BUS every byte of memory but 0xFF44, 0xFF41 and 0xFF0F.
(derived; rules R450, R457, R458, R459.) -/
def Obligations.TickFrame : Prop :=
  ∀ s : State,
    let t := ppuTick s
    t = { s with mem := t.mem, device := t.device, dot := t.dot, ly := t.ly, mode := t.mode, lines := t.lines
                 statLine := t.statLine, frameSlot := t.frameSlot, emitted := t.emitted } ∧
    (s.cfg.bus = .flat → ∀ a, a ≠ 0xFF44#16 → a ≠ 0xFF41#16 → a ≠ 0xFF0F#16 → t.readByte a = s.readByte a)

/-- O55. From a state on the mode grid with no fault, a step that does not fault costs at least 4 cycles, moves the
position in the frame on by exactly the cycles it cost, mod 70,224, and ends on the grid. (derived; rules R407,
R451, R525.) -/
def Obligations.Lockstep : Prop :=
  ∀ s t : State, Claims.OnGrid s → step s = .next t → t.fault = none →
    s.cycles + 4 ≤ t.cycles ∧ t.framePosition = (s.framePosition + (t.cycles - s.cycles)) % 70224 ∧ Claims.OnGrid t

/-- O56. Changing the breakpoint, the contents of the hand-off slot and the count of readiness draws changes nothing
else a step computes: the step gives a next state that differs at most in those. (derived; rules R443, R444.) -/
def Obligations.HostSideUnseen : Prop :=
  ∀ (s t : State) (bp : Option Word) (slot : Option Frame) (n : Nat), step s = .next t →
    ∃ slot' n', step (Claims.withHostSide s bp slot n) = .next (Claims.withHostSide t bp slot' n')

/-- O57. A composited line always has 160 pixels; with LCDC bit 7 = 0 they are all SHADE_RGB(0), whatever else
memory holds; with LCDC bit 7 = 1, bit 0 = 0 and bit 1 = 0 (no background, window or sprites) they are too.
(derived; rules R461, R462, R471.) -/
def Obligations.BlankLines : Prop :=
  ∀ (s : State) (ly : Nat),
    (composite s ly).length = 160 ∧
    ((s.readByte 0xFF40#16).getLsbD 7 = false →
      composite s ly = List.replicate 160 s.cfg.shadeRgb.shade0) ∧
    ((s.readByte 0xFF40#16).getLsbD 7 = true → (s.readByte 0xFF40#16).getLsbD 0 = false →
      (s.readByte 0xFF40#16).getLsbD 1 = false → composite s ly = List.replicate 160 s.cfg.shadeRgb.shade0)

/-- O58. With the LCD and the background on and sprites off, the pixel at each column is the shade BGP gives the
colour index of the tile row's two bit planes, in the window map at (c - (WX - WX_OFFSET), ly - WY) where the
window is on, reached and at or right of its trigger column, and in the background map at ((SCX + c) mod 256,
(SCY + ly) mod 256) elsewhere, with the maps and the tile addressing LCDC selects. (derived; rules R464, R465,
R466, R469.) -/
def Obligations.BackgroundAndWindow : Prop :=
  ∀ (s : State) (ly c : Nat), c < 160 →
    let lcdc := s.readByte 0xFF40#16
    lcdc.getLsbD 7 = true → lcdc.getLsbD 0 = true → lcdc.getLsbD 1 = false →
    (composite s ly)[c]? = some (shadeColour s.cfg.shadeRgb
      ((s.readByte 0xFF47#16).toNat >>> (2 * Claims.planeColumn s ly c) &&& 3))

/-- O59. OAM entry i is the four bytes at 0xFE00 + 4i. The sprite list of a line is the entries at a strictly rising
list of OAM indices below 40, at most ten, each with Y - 16 <= ly < Y - 16 + h; an entry that covers the line is
left out only when ten entries before it were kept. A sprite covers the columns c with 0 <= c - (X - 8) < 8, and
at a column it covers, on a line it covers, its colour index is that of pixel px of row row of its tile, flipped
and, for 8x16, paired as rule R467 says (Claims.spriteIndex). (derived; rules R463, R467, R464, R54.) -/
def Obligations.SpriteSelection : Prop :=
  ∀ (s : State) (ly : Nat),
    let h : Int := if (s.readByte 0xFF40#16).getLsbD 2 then 16 else 8
    let covers := fun sp : Sprite => (sp.y : Int) - 16 ≤ ly ∧ (ly : Int) < (sp.y : Int) - 16 + h
    (∀ i < 40, (oamEntry s i).y = (s.readByte (.ofNat 16 (0xFE00 + 4 * i))).toNat ∧
      (oamEntry s i).x = (s.readByte (.ofNat 16 (0xFE01 + 4 * i))).toNat ∧
      (oamEntry s i).tile = s.readByte (.ofNat 16 (0xFE02 + 4 * i)) ∧
      (oamEntry s i).attr = s.readByte (.ofNat 16 (0xFE03 + 4 * i))) ∧
    (∃ kept : List Nat, spriteList s ly = kept.map (oamEntry s) ∧ kept.length ≤ 10 ∧ kept.Pairwise (· < ·) ∧
      (∀ i ∈ kept, i < 40 ∧ covers (oamEntry s i)) ∧
      (∀ i < 40, covers (oamEntry s i) → i ∉ kept → kept.length = 10 ∧ ∀ j ∈ kept, j < i)) ∧
    (∀ (sp : Sprite) (c : Nat),
      (sp.covers c = true ↔ 0 ≤ (c : Int) - ((sp.x : Int) - 8) ∧ (c : Int) - ((sp.x : Int) - 8) < 8) ∧
      (covers sp → sp.covers c = true → sp.index s ly c = Claims.spriteIndex s ly c sp))

/-- O60. With sprites on, the sprite at a column is, among those of the list that cover it and are not transparent
there, the one of lowest X, the earliest on ties, and there is none exactly when no such sprite is; the column
shows the background or window when there is no sprite, or the sprite is behind and the background index is not
0, and the sprite through its palette otherwise; with sprites off there is none. The background index is that of
the two bit planes (Claims.planeColumn), 0 with LCDC bit 0 = 0. With the LCD on, each of the 160 pixels of a
composited line is SHADE_RGB of the shade that BGP, OBP0 or OBP1 gives the colour index so shown by the line's
sprite list, shade 0 for the background when LCDC bit 0 = 0 (Claims.shadeOf), and SHADE_RGB gives the four
shades by default white, light grey, dark grey and black. (stated; rules R468, R469.) -/
def Obligations.SpritePriority : Prop :=
  ∀ (s : State) (ly c : Nat) (sprites : List Sprite),
    let lcdc := s.readByte 0xFF40#16
    let shows := fun sp : Sprite => sp.covers c = true ∧ sp.index s ly c ≠ 0
    (lcdc.getLsbD 1 = false → spriteAt s ly c sprites = none) ∧
    (lcdc.getLsbD 1 = true → spriteAt s ly c sprites = none → ∀ sp ∈ sprites, ¬ shows sp) ∧
    (∀ sp, spriteAt s ly c sprites = some sp → ∃ before after, sprites = before ++ sp :: after ∧ shows sp ∧
      (∀ q ∈ before, shows q → sp.x < q.x) ∧ (∀ q ∈ after, shows q → sp.x ≤ q.x)) ∧
    (spriteAt s ly c sprites = none → mixedPixel s ly c sprites = ⟨bgIndex s ly c, .background⟩) ∧
    (∀ sp, spriteAt s ly c sprites = some sp →
      mixedPixel s ly c sprites =
        if sp.attr.getLsbD 7 = true ∧ bgIndex s ly c ≠ 0 then ⟨bgIndex s ly c, .background⟩
        else ⟨sp.index s ly c, if sp.attr.getLsbD 4 then .object1 else .object0⟩) ∧
    bgIndex s ly c = (if lcdc.getLsbD 0 then Claims.planeColumn s ly c else 0) ∧
    (lcdc.getLsbD 7 = true → c < 160 →
      (composite s ly)[c]? =
        some (shadeColour s.cfg.shadeRgb (Claims.shadeOf s (mixedPixel s ly c (spriteList s ly))))) ∧
    shadeColour s.cfg.shadeRgb 0 = s.cfg.shadeRgb.shade0 ∧ shadeColour s.cfg.shadeRgb 1 = s.cfg.shadeRgb.shade1 ∧
    shadeColour s.cfg.shadeRgb 2 = s.cfg.shadeRgb.shade2 ∧ shadeColour s.cfg.shadeRgb 3 = s.cfg.shadeRgb.shade3 ∧
    Params.standard.shadeRgb = ⟨⟨0xFF#8, 0xFF#8, 0xFF#8⟩, ⟨0xAA#8, 0xAA#8, 0xAA#8⟩, ⟨0x55#8, 0x55#8, 0x55#8⟩,
      ⟨0x00#8, 0x00#8, 0x00#8⟩⟩
end

