-- ==== Sys2Proof/Laws/State.lean ====
section
/-! SUPPORT. One lemma for each field of the state under each named update, so that no proof unfolds an update:
`State.<update>_<field>`. The registers under `setReg`, `setPair` and `setStackPair` are read through the same
accessors (`reg_setReg_same` and its companions). -/

namespace Sys2Proof.Machine

@[simp] theorem State.setFlags_a (s : State) (z n h c : Bool) : (s.setFlags z n h c).a = s.a := rfl
@[simp] theorem State.setFlags_b (s : State) (z n h c : Bool) : (s.setFlags z n h c).b = s.b := rfl
@[simp] theorem State.setFlags_c (s : State) (z n h c : Bool) : (s.setFlags z n h c).c = s.c := rfl
@[simp] theorem State.setFlags_d (s : State) (z n h c : Bool) : (s.setFlags z n h c).d = s.d := rfl
@[simp] theorem State.setFlags_e (s : State) (z n h c : Bool) : (s.setFlags z n h c).e = s.e := rfl
@[simp] theorem State.setFlags_h (s : State) (z n h c : Bool) : (s.setFlags z n h c).h = s.h := rfl
@[simp] theorem State.setFlags_l (s : State) (z n h c : Bool) : (s.setFlags z n h c).l = s.l := rfl
@[simp] theorem State.setFlags_sp (s : State) (z n h c : Bool) : (s.setFlags z n h c).sp = s.sp := rfl
@[simp] theorem State.setFlags_pc (s : State) (z n h c : Bool) : (s.setFlags z n h c).pc = s.pc := rfl
@[simp] theorem State.setFlags_ime (s : State) (z n h c : Bool) : (s.setFlags z n h c).ime = s.ime := rfl
@[simp] theorem State.setFlags_eiArmed (s : State) (z n h c : Bool) : (s.setFlags z n h c).eiArmed = s.eiArmed := rfl
@[simp] theorem State.setFlags_halted (s : State) (z n h c : Bool) : (s.setFlags z n h c).halted = s.halted := rfl
@[simp] theorem State.setFlags_stopped (s : State) (z n h c : Bool) : (s.setFlags z n h c).stopped = s.stopped := rfl
@[simp] theorem State.setFlags_haltbug (s : State) (z n h c : Bool) : (s.setFlags z n h c).haltbug = s.haltbug := rfl
@[simp] theorem State.setFlags_fault (s : State) (z n h c : Bool) : (s.setFlags z n h c).fault = s.fault := rfl
@[simp] theorem State.setFlags_cycles (s : State) (z n h c : Bool) : (s.setFlags z n h c).cycles = s.cycles := rfl
@[simp] theorem State.setFlags_mem (s : State) (z n h c : Bool) : (s.setFlags z n h c).mem = s.mem := rfl
@[simp] theorem State.setFlags_device (s : State) (z n h c : Bool) : (s.setFlags z n h c).device = s.device := rfl
@[simp] theorem State.setFlags_dot (s : State) (z n h c : Bool) : (s.setFlags z n h c).dot = s.dot := rfl
@[simp] theorem State.setFlags_ly (s : State) (z n h c : Bool) : (s.setFlags z n h c).ly = s.ly := rfl
@[simp] theorem State.setFlags_mode (s : State) (z n h c : Bool) : (s.setFlags z n h c).mode = s.mode := rfl
@[simp] theorem State.setFlags_lines (s : State) (z n h c : Bool) : (s.setFlags z n h c).lines = s.lines := rfl
@[simp] theorem State.setFlags_statLine (s : State) (z n h c : Bool) : (s.setFlags z n h c).statLine = s.statLine := rfl
@[simp] theorem State.setFlags_frameSlot (s : State) (z n h c : Bool) : (s.setFlags z n h c).frameSlot = s.frameSlot := rfl
@[simp] theorem State.setFlags_bp (s : State) (z n h c : Bool) : (s.setFlags z n h c).bp = s.bp := rfl
@[simp] theorem State.setFlags_emitted (s : State) (z n h c : Bool) : (s.setFlags z n h c).emitted = s.emitted := rfl
@[simp] theorem State.setFlags_cfg (s : State) (z n h c : Bool) : (s.setFlags z n h c).cfg = s.cfg := rfl

@[simp] theorem State.setFlags_f (s : State) (z n h c : Bool) : (s.setFlags z n h c).f = packFlags z n h c := rfl

@[simp] theorem State.setReg_f (s : State) (r : R7) (v : Byte) : (s.setReg r v).f = s.f := by cases r <;> rfl
@[simp] theorem State.setReg_sp (s : State) (r : R7) (v : Byte) : (s.setReg r v).sp = s.sp := by cases r <;> rfl
@[simp] theorem State.setReg_pc (s : State) (r : R7) (v : Byte) : (s.setReg r v).pc = s.pc := by cases r <;> rfl
@[simp] theorem State.setReg_ime (s : State) (r : R7) (v : Byte) : (s.setReg r v).ime = s.ime := by cases r <;> rfl
@[simp] theorem State.setReg_eiArmed (s : State) (r : R7) (v : Byte) : (s.setReg r v).eiArmed = s.eiArmed := by cases r <;> rfl
@[simp] theorem State.setReg_halted (s : State) (r : R7) (v : Byte) : (s.setReg r v).halted = s.halted := by cases r <;> rfl
@[simp] theorem State.setReg_stopped (s : State) (r : R7) (v : Byte) : (s.setReg r v).stopped = s.stopped := by cases r <;> rfl
@[simp] theorem State.setReg_haltbug (s : State) (r : R7) (v : Byte) : (s.setReg r v).haltbug = s.haltbug := by cases r <;> rfl
@[simp] theorem State.setReg_fault (s : State) (r : R7) (v : Byte) : (s.setReg r v).fault = s.fault := by cases r <;> rfl
@[simp] theorem State.setReg_cycles (s : State) (r : R7) (v : Byte) : (s.setReg r v).cycles = s.cycles := by cases r <;> rfl
@[simp] theorem State.setReg_mem (s : State) (r : R7) (v : Byte) : (s.setReg r v).mem = s.mem := by cases r <;> rfl
@[simp] theorem State.setReg_device (s : State) (r : R7) (v : Byte) : (s.setReg r v).device = s.device := by cases r <;> rfl
@[simp] theorem State.setReg_dot (s : State) (r : R7) (v : Byte) : (s.setReg r v).dot = s.dot := by cases r <;> rfl
@[simp] theorem State.setReg_ly (s : State) (r : R7) (v : Byte) : (s.setReg r v).ly = s.ly := by cases r <;> rfl
@[simp] theorem State.setReg_mode (s : State) (r : R7) (v : Byte) : (s.setReg r v).mode = s.mode := by cases r <;> rfl
@[simp] theorem State.setReg_lines (s : State) (r : R7) (v : Byte) : (s.setReg r v).lines = s.lines := by cases r <;> rfl
@[simp] theorem State.setReg_statLine (s : State) (r : R7) (v : Byte) : (s.setReg r v).statLine = s.statLine := by cases r <;> rfl
@[simp] theorem State.setReg_frameSlot (s : State) (r : R7) (v : Byte) : (s.setReg r v).frameSlot = s.frameSlot := by cases r <;> rfl
@[simp] theorem State.setReg_bp (s : State) (r : R7) (v : Byte) : (s.setReg r v).bp = s.bp := by cases r <;> rfl
@[simp] theorem State.setReg_emitted (s : State) (r : R7) (v : Byte) : (s.setReg r v).emitted = s.emitted := by cases r <;> rfl
@[simp] theorem State.setReg_cfg (s : State) (r : R7) (v : Byte) : (s.setReg r v).cfg = s.cfg := by cases r <;> rfl

@[simp] theorem State.setBC_a (s : State) (v : Word) : (s.setBC v).a = s.a := rfl
@[simp] theorem State.setBC_f (s : State) (v : Word) : (s.setBC v).f = s.f := rfl
@[simp] theorem State.setBC_d (s : State) (v : Word) : (s.setBC v).d = s.d := rfl
@[simp] theorem State.setBC_e (s : State) (v : Word) : (s.setBC v).e = s.e := rfl
@[simp] theorem State.setBC_h (s : State) (v : Word) : (s.setBC v).h = s.h := rfl
@[simp] theorem State.setBC_l (s : State) (v : Word) : (s.setBC v).l = s.l := rfl
@[simp] theorem State.setBC_sp (s : State) (v : Word) : (s.setBC v).sp = s.sp := rfl
@[simp] theorem State.setBC_pc (s : State) (v : Word) : (s.setBC v).pc = s.pc := rfl
@[simp] theorem State.setBC_ime (s : State) (v : Word) : (s.setBC v).ime = s.ime := rfl
@[simp] theorem State.setBC_eiArmed (s : State) (v : Word) : (s.setBC v).eiArmed = s.eiArmed := rfl
@[simp] theorem State.setBC_halted (s : State) (v : Word) : (s.setBC v).halted = s.halted := rfl
@[simp] theorem State.setBC_stopped (s : State) (v : Word) : (s.setBC v).stopped = s.stopped := rfl
@[simp] theorem State.setBC_haltbug (s : State) (v : Word) : (s.setBC v).haltbug = s.haltbug := rfl
@[simp] theorem State.setBC_fault (s : State) (v : Word) : (s.setBC v).fault = s.fault := rfl
@[simp] theorem State.setBC_cycles (s : State) (v : Word) : (s.setBC v).cycles = s.cycles := rfl
@[simp] theorem State.setBC_mem (s : State) (v : Word) : (s.setBC v).mem = s.mem := rfl
@[simp] theorem State.setBC_device (s : State) (v : Word) : (s.setBC v).device = s.device := rfl
@[simp] theorem State.setBC_dot (s : State) (v : Word) : (s.setBC v).dot = s.dot := rfl
@[simp] theorem State.setBC_ly (s : State) (v : Word) : (s.setBC v).ly = s.ly := rfl
@[simp] theorem State.setBC_mode (s : State) (v : Word) : (s.setBC v).mode = s.mode := rfl
@[simp] theorem State.setBC_lines (s : State) (v : Word) : (s.setBC v).lines = s.lines := rfl
@[simp] theorem State.setBC_statLine (s : State) (v : Word) : (s.setBC v).statLine = s.statLine := rfl
@[simp] theorem State.setBC_frameSlot (s : State) (v : Word) : (s.setBC v).frameSlot = s.frameSlot := rfl
@[simp] theorem State.setBC_bp (s : State) (v : Word) : (s.setBC v).bp = s.bp := rfl
@[simp] theorem State.setBC_emitted (s : State) (v : Word) : (s.setBC v).emitted = s.emitted := rfl
@[simp] theorem State.setBC_cfg (s : State) (v : Word) : (s.setBC v).cfg = s.cfg := rfl

@[simp] theorem State.setDE_a (s : State) (v : Word) : (s.setDE v).a = s.a := rfl
@[simp] theorem State.setDE_f (s : State) (v : Word) : (s.setDE v).f = s.f := rfl
@[simp] theorem State.setDE_b (s : State) (v : Word) : (s.setDE v).b = s.b := rfl
@[simp] theorem State.setDE_c (s : State) (v : Word) : (s.setDE v).c = s.c := rfl
@[simp] theorem State.setDE_h (s : State) (v : Word) : (s.setDE v).h = s.h := rfl
@[simp] theorem State.setDE_l (s : State) (v : Word) : (s.setDE v).l = s.l := rfl
@[simp] theorem State.setDE_sp (s : State) (v : Word) : (s.setDE v).sp = s.sp := rfl
@[simp] theorem State.setDE_pc (s : State) (v : Word) : (s.setDE v).pc = s.pc := rfl
@[simp] theorem State.setDE_ime (s : State) (v : Word) : (s.setDE v).ime = s.ime := rfl
@[simp] theorem State.setDE_eiArmed (s : State) (v : Word) : (s.setDE v).eiArmed = s.eiArmed := rfl
@[simp] theorem State.setDE_halted (s : State) (v : Word) : (s.setDE v).halted = s.halted := rfl
@[simp] theorem State.setDE_stopped (s : State) (v : Word) : (s.setDE v).stopped = s.stopped := rfl
@[simp] theorem State.setDE_haltbug (s : State) (v : Word) : (s.setDE v).haltbug = s.haltbug := rfl
@[simp] theorem State.setDE_fault (s : State) (v : Word) : (s.setDE v).fault = s.fault := rfl
@[simp] theorem State.setDE_cycles (s : State) (v : Word) : (s.setDE v).cycles = s.cycles := rfl
@[simp] theorem State.setDE_mem (s : State) (v : Word) : (s.setDE v).mem = s.mem := rfl
@[simp] theorem State.setDE_device (s : State) (v : Word) : (s.setDE v).device = s.device := rfl
@[simp] theorem State.setDE_dot (s : State) (v : Word) : (s.setDE v).dot = s.dot := rfl
@[simp] theorem State.setDE_ly (s : State) (v : Word) : (s.setDE v).ly = s.ly := rfl
@[simp] theorem State.setDE_mode (s : State) (v : Word) : (s.setDE v).mode = s.mode := rfl
@[simp] theorem State.setDE_lines (s : State) (v : Word) : (s.setDE v).lines = s.lines := rfl
@[simp] theorem State.setDE_statLine (s : State) (v : Word) : (s.setDE v).statLine = s.statLine := rfl
@[simp] theorem State.setDE_frameSlot (s : State) (v : Word) : (s.setDE v).frameSlot = s.frameSlot := rfl
@[simp] theorem State.setDE_bp (s : State) (v : Word) : (s.setDE v).bp = s.bp := rfl
@[simp] theorem State.setDE_emitted (s : State) (v : Word) : (s.setDE v).emitted = s.emitted := rfl
@[simp] theorem State.setDE_cfg (s : State) (v : Word) : (s.setDE v).cfg = s.cfg := rfl

@[simp] theorem State.setHL_a (s : State) (v : Word) : (s.setHL v).a = s.a := rfl
@[simp] theorem State.setHL_f (s : State) (v : Word) : (s.setHL v).f = s.f := rfl
@[simp] theorem State.setHL_b (s : State) (v : Word) : (s.setHL v).b = s.b := rfl
@[simp] theorem State.setHL_c (s : State) (v : Word) : (s.setHL v).c = s.c := rfl
@[simp] theorem State.setHL_d (s : State) (v : Word) : (s.setHL v).d = s.d := rfl
@[simp] theorem State.setHL_e (s : State) (v : Word) : (s.setHL v).e = s.e := rfl
@[simp] theorem State.setHL_sp (s : State) (v : Word) : (s.setHL v).sp = s.sp := rfl
@[simp] theorem State.setHL_pc (s : State) (v : Word) : (s.setHL v).pc = s.pc := rfl
@[simp] theorem State.setHL_ime (s : State) (v : Word) : (s.setHL v).ime = s.ime := rfl
@[simp] theorem State.setHL_eiArmed (s : State) (v : Word) : (s.setHL v).eiArmed = s.eiArmed := rfl
@[simp] theorem State.setHL_halted (s : State) (v : Word) : (s.setHL v).halted = s.halted := rfl
@[simp] theorem State.setHL_stopped (s : State) (v : Word) : (s.setHL v).stopped = s.stopped := rfl
@[simp] theorem State.setHL_haltbug (s : State) (v : Word) : (s.setHL v).haltbug = s.haltbug := rfl
@[simp] theorem State.setHL_fault (s : State) (v : Word) : (s.setHL v).fault = s.fault := rfl
@[simp] theorem State.setHL_cycles (s : State) (v : Word) : (s.setHL v).cycles = s.cycles := rfl
@[simp] theorem State.setHL_mem (s : State) (v : Word) : (s.setHL v).mem = s.mem := rfl
@[simp] theorem State.setHL_device (s : State) (v : Word) : (s.setHL v).device = s.device := rfl
@[simp] theorem State.setHL_dot (s : State) (v : Word) : (s.setHL v).dot = s.dot := rfl
@[simp] theorem State.setHL_ly (s : State) (v : Word) : (s.setHL v).ly = s.ly := rfl
@[simp] theorem State.setHL_mode (s : State) (v : Word) : (s.setHL v).mode = s.mode := rfl
@[simp] theorem State.setHL_lines (s : State) (v : Word) : (s.setHL v).lines = s.lines := rfl
@[simp] theorem State.setHL_statLine (s : State) (v : Word) : (s.setHL v).statLine = s.statLine := rfl
@[simp] theorem State.setHL_frameSlot (s : State) (v : Word) : (s.setHL v).frameSlot = s.frameSlot := rfl
@[simp] theorem State.setHL_bp (s : State) (v : Word) : (s.setHL v).bp = s.bp := rfl
@[simp] theorem State.setHL_emitted (s : State) (v : Word) : (s.setHL v).emitted = s.emitted := rfl
@[simp] theorem State.setHL_cfg (s : State) (v : Word) : (s.setHL v).cfg = s.cfg := rfl

@[simp] theorem State.setAF_b (s : State) (v : Word) : (s.setAF v).b = s.b := rfl
@[simp] theorem State.setAF_c (s : State) (v : Word) : (s.setAF v).c = s.c := rfl
@[simp] theorem State.setAF_d (s : State) (v : Word) : (s.setAF v).d = s.d := rfl
@[simp] theorem State.setAF_e (s : State) (v : Word) : (s.setAF v).e = s.e := rfl
@[simp] theorem State.setAF_h (s : State) (v : Word) : (s.setAF v).h = s.h := rfl
@[simp] theorem State.setAF_l (s : State) (v : Word) : (s.setAF v).l = s.l := rfl
@[simp] theorem State.setAF_sp (s : State) (v : Word) : (s.setAF v).sp = s.sp := rfl
@[simp] theorem State.setAF_pc (s : State) (v : Word) : (s.setAF v).pc = s.pc := rfl
@[simp] theorem State.setAF_ime (s : State) (v : Word) : (s.setAF v).ime = s.ime := rfl
@[simp] theorem State.setAF_eiArmed (s : State) (v : Word) : (s.setAF v).eiArmed = s.eiArmed := rfl
@[simp] theorem State.setAF_halted (s : State) (v : Word) : (s.setAF v).halted = s.halted := rfl
@[simp] theorem State.setAF_stopped (s : State) (v : Word) : (s.setAF v).stopped = s.stopped := rfl
@[simp] theorem State.setAF_haltbug (s : State) (v : Word) : (s.setAF v).haltbug = s.haltbug := rfl
@[simp] theorem State.setAF_fault (s : State) (v : Word) : (s.setAF v).fault = s.fault := rfl
@[simp] theorem State.setAF_cycles (s : State) (v : Word) : (s.setAF v).cycles = s.cycles := rfl
@[simp] theorem State.setAF_mem (s : State) (v : Word) : (s.setAF v).mem = s.mem := rfl
@[simp] theorem State.setAF_device (s : State) (v : Word) : (s.setAF v).device = s.device := rfl
@[simp] theorem State.setAF_dot (s : State) (v : Word) : (s.setAF v).dot = s.dot := rfl
@[simp] theorem State.setAF_ly (s : State) (v : Word) : (s.setAF v).ly = s.ly := rfl
@[simp] theorem State.setAF_mode (s : State) (v : Word) : (s.setAF v).mode = s.mode := rfl
@[simp] theorem State.setAF_lines (s : State) (v : Word) : (s.setAF v).lines = s.lines := rfl
@[simp] theorem State.setAF_statLine (s : State) (v : Word) : (s.setAF v).statLine = s.statLine := rfl
@[simp] theorem State.setAF_frameSlot (s : State) (v : Word) : (s.setAF v).frameSlot = s.frameSlot := rfl
@[simp] theorem State.setAF_bp (s : State) (v : Word) : (s.setAF v).bp = s.bp := rfl
@[simp] theorem State.setAF_emitted (s : State) (v : Word) : (s.setAF v).emitted = s.emitted := rfl
@[simp] theorem State.setAF_cfg (s : State) (v : Word) : (s.setAF v).cfg = s.cfg := rfl

@[simp] theorem State.setBC_b (s : State) (v : Word) : (s.setBC v).b = hiByte v := rfl
@[simp] theorem State.setBC_c (s : State) (v : Word) : (s.setBC v).c = loByte v := rfl
@[simp] theorem State.setDE_d (s : State) (v : Word) : (s.setDE v).d = hiByte v := rfl
@[simp] theorem State.setDE_e (s : State) (v : Word) : (s.setDE v).e = loByte v := rfl
@[simp] theorem State.setHL_h (s : State) (v : Word) : (s.setHL v).h = hiByte v := rfl
@[simp] theorem State.setHL_l (s : State) (v : Word) : (s.setHL v).l = loByte v := rfl
@[simp] theorem State.setAF_a (s : State) (v : Word) : (s.setAF v).a = hiByte v := rfl
@[simp] theorem State.setAF_f (s : State) (v : Word) : (s.setAF v).f = highNibble (loByte v) := rfl

@[simp] theorem State.setPair_a (s : State) (p : RR) (v : Word) : (s.setPair p v).a = s.a := by cases p <;> rfl
@[simp] theorem State.setPair_f (s : State) (p : RR) (v : Word) : (s.setPair p v).f = s.f := by cases p <;> rfl
@[simp] theorem State.setPair_pc (s : State) (p : RR) (v : Word) : (s.setPair p v).pc = s.pc := by cases p <;> rfl
@[simp] theorem State.setPair_ime (s : State) (p : RR) (v : Word) : (s.setPair p v).ime = s.ime := by cases p <;> rfl
@[simp] theorem State.setPair_eiArmed (s : State) (p : RR) (v : Word) : (s.setPair p v).eiArmed = s.eiArmed := by cases p <;> rfl
@[simp] theorem State.setPair_halted (s : State) (p : RR) (v : Word) : (s.setPair p v).halted = s.halted := by cases p <;> rfl
@[simp] theorem State.setPair_stopped (s : State) (p : RR) (v : Word) : (s.setPair p v).stopped = s.stopped := by cases p <;> rfl
@[simp] theorem State.setPair_haltbug (s : State) (p : RR) (v : Word) : (s.setPair p v).haltbug = s.haltbug := by cases p <;> rfl
@[simp] theorem State.setPair_fault (s : State) (p : RR) (v : Word) : (s.setPair p v).fault = s.fault := by cases p <;> rfl
@[simp] theorem State.setPair_cycles (s : State) (p : RR) (v : Word) : (s.setPair p v).cycles = s.cycles := by cases p <;> rfl
@[simp] theorem State.setPair_mem (s : State) (p : RR) (v : Word) : (s.setPair p v).mem = s.mem := by cases p <;> rfl
@[simp] theorem State.setPair_device (s : State) (p : RR) (v : Word) : (s.setPair p v).device = s.device := by cases p <;> rfl
@[simp] theorem State.setPair_dot (s : State) (p : RR) (v : Word) : (s.setPair p v).dot = s.dot := by cases p <;> rfl
@[simp] theorem State.setPair_ly (s : State) (p : RR) (v : Word) : (s.setPair p v).ly = s.ly := by cases p <;> rfl
@[simp] theorem State.setPair_mode (s : State) (p : RR) (v : Word) : (s.setPair p v).mode = s.mode := by cases p <;> rfl
@[simp] theorem State.setPair_lines (s : State) (p : RR) (v : Word) : (s.setPair p v).lines = s.lines := by cases p <;> rfl
@[simp] theorem State.setPair_statLine (s : State) (p : RR) (v : Word) : (s.setPair p v).statLine = s.statLine := by cases p <;> rfl
@[simp] theorem State.setPair_frameSlot (s : State) (p : RR) (v : Word) : (s.setPair p v).frameSlot = s.frameSlot := by cases p <;> rfl
@[simp] theorem State.setPair_bp (s : State) (p : RR) (v : Word) : (s.setPair p v).bp = s.bp := by cases p <;> rfl
@[simp] theorem State.setPair_emitted (s : State) (p : RR) (v : Word) : (s.setPair p v).emitted = s.emitted := by cases p <;> rfl
@[simp] theorem State.setPair_cfg (s : State) (p : RR) (v : Word) : (s.setPair p v).cfg = s.cfg := by cases p <;> rfl

@[simp] theorem State.setStackPair_sp (s : State) (p : QQ) (v : Word) : (s.setStackPair p v).sp = s.sp := by cases p <;> rfl
@[simp] theorem State.setStackPair_pc (s : State) (p : QQ) (v : Word) : (s.setStackPair p v).pc = s.pc := by cases p <;> rfl
@[simp] theorem State.setStackPair_ime (s : State) (p : QQ) (v : Word) : (s.setStackPair p v).ime = s.ime := by cases p <;> rfl
@[simp] theorem State.setStackPair_eiArmed (s : State) (p : QQ) (v : Word) : (s.setStackPair p v).eiArmed = s.eiArmed := by cases p <;> rfl
@[simp] theorem State.setStackPair_halted (s : State) (p : QQ) (v : Word) : (s.setStackPair p v).halted = s.halted := by cases p <;> rfl
@[simp] theorem State.setStackPair_stopped (s : State) (p : QQ) (v : Word) : (s.setStackPair p v).stopped = s.stopped := by cases p <;> rfl
@[simp] theorem State.setStackPair_haltbug (s : State) (p : QQ) (v : Word) : (s.setStackPair p v).haltbug = s.haltbug := by cases p <;> rfl
@[simp] theorem State.setStackPair_fault (s : State) (p : QQ) (v : Word) : (s.setStackPair p v).fault = s.fault := by cases p <;> rfl
@[simp] theorem State.setStackPair_cycles (s : State) (p : QQ) (v : Word) : (s.setStackPair p v).cycles = s.cycles := by cases p <;> rfl
@[simp] theorem State.setStackPair_mem (s : State) (p : QQ) (v : Word) : (s.setStackPair p v).mem = s.mem := by cases p <;> rfl
@[simp] theorem State.setStackPair_device (s : State) (p : QQ) (v : Word) : (s.setStackPair p v).device = s.device := by cases p <;> rfl
@[simp] theorem State.setStackPair_dot (s : State) (p : QQ) (v : Word) : (s.setStackPair p v).dot = s.dot := by cases p <;> rfl
@[simp] theorem State.setStackPair_ly (s : State) (p : QQ) (v : Word) : (s.setStackPair p v).ly = s.ly := by cases p <;> rfl
@[simp] theorem State.setStackPair_mode (s : State) (p : QQ) (v : Word) : (s.setStackPair p v).mode = s.mode := by cases p <;> rfl
@[simp] theorem State.setStackPair_lines (s : State) (p : QQ) (v : Word) : (s.setStackPair p v).lines = s.lines := by cases p <;> rfl
@[simp] theorem State.setStackPair_statLine (s : State) (p : QQ) (v : Word) : (s.setStackPair p v).statLine = s.statLine := by cases p <;> rfl
@[simp] theorem State.setStackPair_frameSlot (s : State) (p : QQ) (v : Word) : (s.setStackPair p v).frameSlot = s.frameSlot := by cases p <;> rfl
@[simp] theorem State.setStackPair_bp (s : State) (p : QQ) (v : Word) : (s.setStackPair p v).bp = s.bp := by cases p <;> rfl
@[simp] theorem State.setStackPair_emitted (s : State) (p : QQ) (v : Word) : (s.setStackPair p v).emitted = s.emitted := by cases p <;> rfl
@[simp] theorem State.setStackPair_cfg (s : State) (p : QQ) (v : Word) : (s.setStackPair p v).cfg = s.cfg := by cases p <;> rfl

@[simp] theorem State.writeByte_a (s : State) (x : Word) (v : Byte) : (s.writeByte x v).a = s.a := rfl
@[simp] theorem State.writeByte_f (s : State) (x : Word) (v : Byte) : (s.writeByte x v).f = s.f := rfl
@[simp] theorem State.writeByte_b (s : State) (x : Word) (v : Byte) : (s.writeByte x v).b = s.b := rfl
@[simp] theorem State.writeByte_c (s : State) (x : Word) (v : Byte) : (s.writeByte x v).c = s.c := rfl
@[simp] theorem State.writeByte_d (s : State) (x : Word) (v : Byte) : (s.writeByte x v).d = s.d := rfl
@[simp] theorem State.writeByte_e (s : State) (x : Word) (v : Byte) : (s.writeByte x v).e = s.e := rfl
@[simp] theorem State.writeByte_h (s : State) (x : Word) (v : Byte) : (s.writeByte x v).h = s.h := rfl
@[simp] theorem State.writeByte_l (s : State) (x : Word) (v : Byte) : (s.writeByte x v).l = s.l := rfl
@[simp] theorem State.writeByte_sp (s : State) (x : Word) (v : Byte) : (s.writeByte x v).sp = s.sp := rfl
@[simp] theorem State.writeByte_pc (s : State) (x : Word) (v : Byte) : (s.writeByte x v).pc = s.pc := rfl
@[simp] theorem State.writeByte_ime (s : State) (x : Word) (v : Byte) : (s.writeByte x v).ime = s.ime := rfl
@[simp] theorem State.writeByte_eiArmed (s : State) (x : Word) (v : Byte) : (s.writeByte x v).eiArmed = s.eiArmed := rfl
@[simp] theorem State.writeByte_halted (s : State) (x : Word) (v : Byte) : (s.writeByte x v).halted = s.halted := rfl
@[simp] theorem State.writeByte_stopped (s : State) (x : Word) (v : Byte) : (s.writeByte x v).stopped = s.stopped := rfl
@[simp] theorem State.writeByte_haltbug (s : State) (x : Word) (v : Byte) : (s.writeByte x v).haltbug = s.haltbug := rfl
@[simp] theorem State.writeByte_fault (s : State) (x : Word) (v : Byte) : (s.writeByte x v).fault = s.fault := rfl
@[simp] theorem State.writeByte_cycles (s : State) (x : Word) (v : Byte) : (s.writeByte x v).cycles = s.cycles := rfl
@[simp] theorem State.writeByte_dot (s : State) (x : Word) (v : Byte) : (s.writeByte x v).dot = s.dot := rfl
@[simp] theorem State.writeByte_ly (s : State) (x : Word) (v : Byte) : (s.writeByte x v).ly = s.ly := rfl
@[simp] theorem State.writeByte_mode (s : State) (x : Word) (v : Byte) : (s.writeByte x v).mode = s.mode := rfl
@[simp] theorem State.writeByte_lines (s : State) (x : Word) (v : Byte) : (s.writeByte x v).lines = s.lines := rfl
@[simp] theorem State.writeByte_statLine (s : State) (x : Word) (v : Byte) : (s.writeByte x v).statLine = s.statLine := rfl
@[simp] theorem State.writeByte_frameSlot (s : State) (x : Word) (v : Byte) : (s.writeByte x v).frameSlot = s.frameSlot := rfl
@[simp] theorem State.writeByte_bp (s : State) (x : Word) (v : Byte) : (s.writeByte x v).bp = s.bp := rfl
@[simp] theorem State.writeByte_emitted (s : State) (x : Word) (v : Byte) : (s.writeByte x v).emitted = s.emitted := rfl
@[simp] theorem State.writeByte_cfg (s : State) (x : Word) (v : Byte) : (s.writeByte x v).cfg = s.cfg := rfl

@[simp] theorem State.writeByte_mem (s : State) (x : Word) (v : Byte) : (s.writeByte x v).mem = busWriteStore s.cfg.bus s.mem x v := rfl
@[simp] theorem State.writeByte_device (s : State) (x : Word) (v : Byte) : (s.writeByte x v).device = busWriteDevice s.cfg.bus s.device x v := rfl

@[simp] theorem State.setOperand_f (s : State) (q : Operand8) (v : Byte) : (s.setOperand q v).f = s.f := by cases q with
  | reg r => exact State.setReg_f s r v
  | atHL => rfl
@[simp] theorem State.setOperand_sp (s : State) (q : Operand8) (v : Byte) : (s.setOperand q v).sp = s.sp := by cases q with
  | reg r => exact State.setReg_sp s r v
  | atHL => rfl
@[simp] theorem State.setOperand_pc (s : State) (q : Operand8) (v : Byte) : (s.setOperand q v).pc = s.pc := by cases q with
  | reg r => exact State.setReg_pc s r v
  | atHL => rfl
@[simp] theorem State.setOperand_ime (s : State) (q : Operand8) (v : Byte) : (s.setOperand q v).ime = s.ime := by cases q with
  | reg r => exact State.setReg_ime s r v
  | atHL => rfl
@[simp] theorem State.setOperand_eiArmed (s : State) (q : Operand8) (v : Byte) : (s.setOperand q v).eiArmed = s.eiArmed := by cases q with
  | reg r => exact State.setReg_eiArmed s r v
  | atHL => rfl
@[simp] theorem State.setOperand_halted (s : State) (q : Operand8) (v : Byte) : (s.setOperand q v).halted = s.halted := by cases q with
  | reg r => exact State.setReg_halted s r v
  | atHL => rfl
@[simp] theorem State.setOperand_stopped (s : State) (q : Operand8) (v : Byte) : (s.setOperand q v).stopped = s.stopped := by cases q with
  | reg r => exact State.setReg_stopped s r v
  | atHL => rfl
@[simp] theorem State.setOperand_haltbug (s : State) (q : Operand8) (v : Byte) : (s.setOperand q v).haltbug = s.haltbug := by cases q with
  | reg r => exact State.setReg_haltbug s r v
  | atHL => rfl
@[simp] theorem State.setOperand_fault (s : State) (q : Operand8) (v : Byte) : (s.setOperand q v).fault = s.fault := by cases q with
  | reg r => exact State.setReg_fault s r v
  | atHL => rfl
@[simp] theorem State.setOperand_cycles (s : State) (q : Operand8) (v : Byte) : (s.setOperand q v).cycles = s.cycles := by cases q with
  | reg r => exact State.setReg_cycles s r v
  | atHL => rfl
@[simp] theorem State.setOperand_dot (s : State) (q : Operand8) (v : Byte) : (s.setOperand q v).dot = s.dot := by cases q with
  | reg r => exact State.setReg_dot s r v
  | atHL => rfl
@[simp] theorem State.setOperand_ly (s : State) (q : Operand8) (v : Byte) : (s.setOperand q v).ly = s.ly := by cases q with
  | reg r => exact State.setReg_ly s r v
  | atHL => rfl
@[simp] theorem State.setOperand_mode (s : State) (q : Operand8) (v : Byte) : (s.setOperand q v).mode = s.mode := by cases q with
  | reg r => exact State.setReg_mode s r v
  | atHL => rfl
@[simp] theorem State.setOperand_lines (s : State) (q : Operand8) (v : Byte) : (s.setOperand q v).lines = s.lines := by cases q with
  | reg r => exact State.setReg_lines s r v
  | atHL => rfl
@[simp] theorem State.setOperand_statLine (s : State) (q : Operand8) (v : Byte) : (s.setOperand q v).statLine = s.statLine := by cases q with
  | reg r => exact State.setReg_statLine s r v
  | atHL => rfl
@[simp] theorem State.setOperand_frameSlot (s : State) (q : Operand8) (v : Byte) : (s.setOperand q v).frameSlot = s.frameSlot := by cases q with
  | reg r => exact State.setReg_frameSlot s r v
  | atHL => rfl
@[simp] theorem State.setOperand_bp (s : State) (q : Operand8) (v : Byte) : (s.setOperand q v).bp = s.bp := by cases q with
  | reg r => exact State.setReg_bp s r v
  | atHL => rfl
@[simp] theorem State.setOperand_emitted (s : State) (q : Operand8) (v : Byte) : (s.setOperand q v).emitted = s.emitted := by cases q with
  | reg r => exact State.setReg_emitted s r v
  | atHL => rfl
@[simp] theorem State.setOperand_cfg (s : State) (q : Operand8) (v : Byte) : (s.setOperand q v).cfg = s.cfg := by cases q with
  | reg r => exact State.setReg_cfg s r v
  | atHL => rfl

@[simp] theorem State.setOperand_reg (s : State) (r : R7) (v : Byte) : s.setOperand (.reg r) v = s.setReg r v := rfl
@[simp] theorem State.setOperand_atHL (s : State) (v : Byte) : s.setOperand .atHL v = s.writeByte s.hl v := rfl
@[simp] theorem State.operand_reg (s : State) (r : R7) : s.operand (.reg r) = s.reg r := rfl
@[simp] theorem State.operand_atHL (s : State) : s.operand .atHL = s.readByte s.hl := rfl

@[simp] theorem State.raise_a (s : State) (k : FaultKind) : (s.raise k).a = s.a := rfl
@[simp] theorem State.raise_f (s : State) (k : FaultKind) : (s.raise k).f = s.f := rfl
@[simp] theorem State.raise_b (s : State) (k : FaultKind) : (s.raise k).b = s.b := rfl
@[simp] theorem State.raise_c (s : State) (k : FaultKind) : (s.raise k).c = s.c := rfl
@[simp] theorem State.raise_d (s : State) (k : FaultKind) : (s.raise k).d = s.d := rfl
@[simp] theorem State.raise_e (s : State) (k : FaultKind) : (s.raise k).e = s.e := rfl
@[simp] theorem State.raise_h (s : State) (k : FaultKind) : (s.raise k).h = s.h := rfl
@[simp] theorem State.raise_l (s : State) (k : FaultKind) : (s.raise k).l = s.l := rfl
@[simp] theorem State.raise_sp (s : State) (k : FaultKind) : (s.raise k).sp = s.sp := rfl
@[simp] theorem State.raise_pc (s : State) (k : FaultKind) : (s.raise k).pc = s.pc := rfl
@[simp] theorem State.raise_ime (s : State) (k : FaultKind) : (s.raise k).ime = s.ime := rfl
@[simp] theorem State.raise_eiArmed (s : State) (k : FaultKind) : (s.raise k).eiArmed = s.eiArmed := rfl
@[simp] theorem State.raise_halted (s : State) (k : FaultKind) : (s.raise k).halted = s.halted := rfl
@[simp] theorem State.raise_stopped (s : State) (k : FaultKind) : (s.raise k).stopped = s.stopped := rfl
@[simp] theorem State.raise_haltbug (s : State) (k : FaultKind) : (s.raise k).haltbug = s.haltbug := rfl
@[simp] theorem State.raise_cycles (s : State) (k : FaultKind) : (s.raise k).cycles = s.cycles := rfl
@[simp] theorem State.raise_mem (s : State) (k : FaultKind) : (s.raise k).mem = s.mem := rfl
@[simp] theorem State.raise_device (s : State) (k : FaultKind) : (s.raise k).device = s.device := rfl
@[simp] theorem State.raise_dot (s : State) (k : FaultKind) : (s.raise k).dot = s.dot := rfl
@[simp] theorem State.raise_ly (s : State) (k : FaultKind) : (s.raise k).ly = s.ly := rfl
@[simp] theorem State.raise_mode (s : State) (k : FaultKind) : (s.raise k).mode = s.mode := rfl
@[simp] theorem State.raise_lines (s : State) (k : FaultKind) : (s.raise k).lines = s.lines := rfl
@[simp] theorem State.raise_statLine (s : State) (k : FaultKind) : (s.raise k).statLine = s.statLine := rfl
@[simp] theorem State.raise_frameSlot (s : State) (k : FaultKind) : (s.raise k).frameSlot = s.frameSlot := rfl
@[simp] theorem State.raise_bp (s : State) (k : FaultKind) : (s.raise k).bp = s.bp := rfl
@[simp] theorem State.raise_emitted (s : State) (k : FaultKind) : (s.raise k).emitted = s.emitted := rfl
@[simp] theorem State.raise_cfg (s : State) (k : FaultKind) : (s.raise k).cfg = s.cfg := rfl

@[simp] theorem State.raise_fault (s : State) (k : FaultKind) : (s.raise k).fault = some ⟨k, s.pc⟩ := rfl

/-! ## Reading back what was written -/

@[simp] theorem State.reg_setReg_same (s : State) (r : R7) (v : Byte) : (s.setReg r v).reg r = v := by cases r <;> rfl

@[simp] theorem State.reg_setReg_other (s : State) (r q : R7) (v : Byte) (h : q ≠ r) : (s.setReg r v).reg q = s.reg q := by
  cases r <;> cases q <;> first | rfl | exact absurd rfl h

theorem joinBytes_toNat (x y : Byte) : (joinBytes x y).toNat = x.toNat * 256 + y.toNat := by
  have := BitVec.toNat_append x y
  have hy := y.isLt
  simp only [joinBytes]
  rw [show (x ++ y : Word).toNat = (x ++ y : BitVec (8+8)).toNat from rfl, this, ← Nat.shiftLeft_add_eq_or_of_lt hy]
  omega

theorem hiByte_toNat (v : Word) : (hiByte v).toNat = v.toNat / 256 := by
  have := v.isLt
  simp [hiByte, BitVec.extractLsb'_toNat, Nat.shiftRight_eq_div_pow]; omega

theorem loByte_toNat (v : Word) : (loByte v).toNat = v.toNat % 256 := by
  simp [loByte, BitVec.extractLsb'_toNat]

@[simp] theorem hiByte_joinBytes (x y : Byte) : hiByte (joinBytes x y) = x := by
  have hx := x.isLt; have hy := y.isLt
  exact BitVec.eq_of_toNat_eq (by rw [hiByte_toNat, joinBytes_toNat]; omega)

@[simp] theorem loByte_joinBytes (x y : Byte) : loByte (joinBytes x y) = y := by
  have hy := y.isLt
  exact BitVec.eq_of_toNat_eq (by rw [loByte_toNat, joinBytes_toNat]; omega)

@[simp] theorem joinBytes_hiByte_loByte (v : Word) : joinBytes (hiByte v) (loByte v) = v :=
  BitVec.eq_of_toNat_eq (by rw [joinBytes_toNat, hiByte_toNat, loByte_toNat]; omega)

@[simp] theorem State.bc_setBC (s : State) (v : Word) : (s.setBC v).bc = v := joinBytes_hiByte_loByte v

@[simp] theorem State.de_setDE (s : State) (v : Word) : (s.setDE v).de = v := joinBytes_hiByte_loByte v

@[simp] theorem State.hl_setHL (s : State) (v : Word) : (s.setHL v).hl = v := joinBytes_hiByte_loByte v

@[simp] theorem State.pair_setPair_same (s : State) (p : RR) (v : Word) : (s.setPair p v).pair p = v := by
  cases p <;> simp [State.setPair, State.pair]

/-! ## The flag byte -/

@[simp] theorem packFlags_bit7 (z n h c : Bool) : (packFlags z n h c).getLsbD 7 = z := by
  cases z <;> cases n <;> cases h <;> cases c <;> rfl

@[simp] theorem State.flagZ_setFlags (s : State) (z n h c : Bool) : (s.setFlags z n h c).flagZ = z :=
  packFlags_bit7 z n h c

@[simp] theorem packFlags_bit6 (z n h c : Bool) : (packFlags z n h c).getLsbD 6 = n := by
  cases z <;> cases n <;> cases h <;> cases c <;> rfl

@[simp] theorem State.flagN_setFlags (s : State) (z n h c : Bool) : (s.setFlags z n h c).flagN = n :=
  packFlags_bit6 z n h c

@[simp] theorem packFlags_bit5 (z n h c : Bool) : (packFlags z n h c).getLsbD 5 = h := by
  cases z <;> cases n <;> cases h <;> cases c <;> rfl

@[simp] theorem State.flagH_setFlags (s : State) (z n h c : Bool) : (s.setFlags z n h c).flagH = h :=
  packFlags_bit5 z n h c

@[simp] theorem packFlags_bit4 (z n h c : Bool) : (packFlags z n h c).getLsbD 4 = c := by
  cases z <;> cases n <;> cases h <;> cases c <;> rfl

@[simp] theorem State.flagC_setFlags (s : State) (z n h c : Bool) : (s.setFlags z n h c).flagC = c :=
  packFlags_bit4 z n h c

/-- Every flag write leaves F's low nibble zero (10_state.md rule R33). -/
@[simp] theorem packFlags_low (z n h c : Bool) : packFlags z n h c &&& 0x0F#8 = 0#8 := by
  cases z <;> cases n <;> cases h <;> cases c <;> rfl

/-- So does a write of F as data (rule R33). -/
@[simp] theorem highNibble_low (v : Byte) : highNibble v &&& 0x0F#8 = 0#8 := by
  simp [highNibble, BitVec.and_assoc]

/-! ## Byte order -/

@[simp] theorem wordOfBytes_lower_upper (o : WordOrder) (v : Word) : wordOfBytes o (lowerByte o v) (upperByte o v) = v := by
  cases o <;> simp [wordOfBytes, lowerByte, upperByte]

@[simp] theorem lowerByte_wordOfBytes (o : WordOrder) (x y : Byte) : lowerByte o (wordOfBytes o x y) = x := by
  cases o <;> simp [wordOfBytes, lowerByte]

@[simp] theorem upperByte_wordOfBytes (o : WordOrder) (x y : Byte) : upperByte o (wordOfBytes o x y) = y := by
  cases o <;> simp [wordOfBytes, upperByte]

end Sys2Proof.Machine
end

