-- ==== Sys2Proof/Laws/Memory.lean ====
section
/-! SUPPORT. The flat store and `BUS`: a read after a write, the canonical form, and writes that commute. -/

namespace Sys2Proof.Machine

@[simp] theorem Memory.read_nil (a : Nat) : Memory.read [] a = Memory.initialByte a := rfl

theorem Memory.read_cons (k : Nat) (w : Byte) (m : Memory) (a : Nat) :
    Memory.read ((k, w) :: m) a = if k = a then w else Memory.read m a := rfl

/-- Nothing below the bound of a canonical list is listed. -/
theorem Memory.read_of_wfFrom {low : Nat} {m : Memory} (h : Memory.wfFrom low m = true) {a : Nat} (ha : a < low) :
    Memory.read m a = Memory.initialByte a := by
  induction m generalizing low with
  | nil => rfl
  | cons c rest ih =>
    obtain ⟨k, w⟩ := c
    simp only [Memory.wfFrom, Bool.and_eq_true, decide_eq_true_eq] at h
    rw [Memory.read_cons, if_neg (by omega)]
    exact ih h.2 (by omega)

theorem Memory.wfFrom_mono {low low' : Nat} {m : Memory} (hl : low' ≤ low) (h : Memory.wfFrom low m = true) :
    Memory.wfFrom low' m = true := by
  cases m with
  | nil => rfl
  | cons c rest =>
    obtain ⟨k, w⟩ := c
    simp only [Memory.wfFrom, Bool.and_eq_true, decide_eq_true_eq] at h ⊢
    exact ⟨⟨⟨by omega, h.1.1.2⟩, h.1.2⟩, h.2⟩

theorem Memory.wfFrom_consCell {low a : Nat} {v : Byte} {m : Memory} (ha : low ≤ a) (hb : a < 0x10000)
    (h : Memory.wfFrom (a + 1) m = true) : Memory.wfFrom low (Memory.consCell a v m) = true := by
  unfold Memory.consCell
  split
  · exact Memory.wfFrom_mono (by omega) h
  · rename_i hv
    simp [Memory.wfFrom, ha, hb, hv, h]

theorem Memory.wfFrom_write {low a : Nat} {v : Byte} {m : Memory} (h : Memory.wfFrom low m = true) (ha : low ≤ a)
    (hb : a < 0x10000) : Memory.wfFrom low (Memory.write m a v) = true := by
  induction m generalizing low with
  | nil => exact Memory.wfFrom_consCell ha hb rfl
  | cons c rest ih =>
    obtain ⟨k, w⟩ := c
    have h' := h
    simp only [Memory.wfFrom, Bool.and_eq_true, decide_eq_true_eq] at h'
    obtain ⟨⟨⟨hk, hk2⟩, hw⟩, hr⟩ := h'
    unfold Memory.write
    split
    · refine Memory.wfFrom_consCell ha hb ?_
      simp only [Memory.wfFrom, Bool.and_eq_true, decide_eq_true_eq]
      exact ⟨⟨⟨by omega, hk2⟩, hw⟩, hr⟩
    · split
      · subst_vars
        exact Memory.wfFrom_consCell hk hb hr
      · simp only [Memory.wfFrom, Bool.and_eq_true, decide_eq_true_eq]
        exact ⟨⟨⟨hk, hk2⟩, hw⟩, ih hr (by omega)⟩

/-- A write keeps the canonical form. -/
@[simp] theorem Memory.wf_write {m : Memory} (h : Memory.wf m = true) (a : Word) (v : Byte) :
    Memory.wf (Memory.write m a.toNat v) = true :=
  Memory.wfFrom_write h (Nat.zero_le _) a.isLt

/-- Reset memory has the canonical form. -/
theorem State.reset_memory_wf : Memory.wf State.reset.mem = true := rfl

theorem Memory.read_consCell_same {a : Nat} {v : Byte} {m : Memory} (h : Memory.read m a = Memory.initialByte a) :
    Memory.read (Memory.consCell a v m) a = v := by
  unfold Memory.consCell
  split
  · rw [h]; exact Eq.symm ‹_›
  · rw [Memory.read_cons, if_pos rfl]

theorem Memory.read_consCell_other {a b : Nat} {v : Byte} {m : Memory} (h : b ≠ a) :
    Memory.read (Memory.consCell a v m) b = Memory.read m b := by
  unfold Memory.consCell
  split
  · rfl
  · rw [Memory.read_cons, if_neg (Ne.symm h)]

theorem Memory.read_write_same_of_wfFrom {low a : Nat} {v : Byte} {m : Memory} (h : Memory.wfFrom low m = true) :
    Memory.read (Memory.write m a v) a = v := by
  induction m generalizing low with
  | nil => exact Memory.read_consCell_same rfl
  | cons c rest ih =>
    obtain ⟨k, w⟩ := c
    have h' := h
    simp only [Memory.wfFrom, Bool.and_eq_true, decide_eq_true_eq] at h'
    obtain ⟨⟨⟨hk, hk2⟩, hw⟩, hr⟩ := h'
    unfold Memory.write
    split
    · rename_i hak
      refine Memory.read_consCell_same ?_
      rw [Memory.read_cons, if_neg (by omega)]
      exact Memory.read_of_wfFrom hr (by omega)
    · split
      · subst_vars
        exact Memory.read_consCell_same (Memory.read_of_wfFrom hr (by omega))
      · rename_i _ hne
        rw [Memory.read_cons, if_neg (fun e => hne e.symm)]
        exact ih hr

/-- A read after a write to the same address gives the value written (20_memory.md rule R91). -/
theorem Memory.read_write_same {m : Memory} (h : Memory.wf m = true) (a : Nat) (v : Byte) :
    Memory.read (Memory.write m a v) a = v :=
  Memory.read_write_same_of_wfFrom h

/-- A write leaves every other address alone. -/
theorem Memory.read_write_other (m : Memory) {a b : Nat} (v : Byte) (h : b ≠ a) :
    Memory.read (Memory.write m a v) b = Memory.read m b := by
  induction m with
  | nil => exact Memory.read_consCell_other h
  | cons c rest ih =>
    obtain ⟨k, w⟩ := c
    unfold Memory.write
    split
    · exact Memory.read_consCell_other h
    · split
      · subst_vars
        rw [Memory.read_consCell_other h, Memory.read_cons, if_neg (Ne.symm h)]
      · rw [Memory.read_cons, Memory.read_cons, ih]

/-! ## `BUS` -/

/-- Whatever `BUS` is, a write keeps the flat store canonical. -/
@[simp] theorem State.writeByte_wf {s : State} (h : Memory.wf s.mem = true) (a : Word) (v : Byte) :
    Memory.wf (s.writeByte a v).mem = true := by
  rw [State.writeByte_mem]
  cases s.cfg.bus with
  | flat => exact Memory.wf_write h a v
  | device n => exact h

/-- On the default `BUS` a byte is read from the flat store. -/
theorem State.readByte_flat {s : State} (hb : s.cfg.bus = .flat) (a : Word) :
    s.readByte a = Memory.read s.mem a.toNat := by
  rw [State.readByte, hb, busRead]

/-- On the default `BUS` a write stores its byte and does nothing else. -/
theorem State.writeByte_flat {s : State} (hb : s.cfg.bus = .flat) (a : Word) (v : Byte) :
    s.writeByte a v = { s with mem := Memory.write s.mem a.toNat v } := by
  simp only [State.writeByte, hb, busWriteStore, busWriteDevice]

theorem State.readByte_writeByte_same {s : State} (hb : s.cfg.bus = .flat) (h : Memory.wf s.mem = true) (a : Word)
    (v : Byte) : (s.writeByte a v).readByte a = v := by
  rw [State.writeByte_flat hb, State.readByte_flat (by exact hb)]
  exact Memory.read_write_same h a.toNat v

theorem State.readByte_writeByte_other {s : State} (hb : s.cfg.bus = .flat) {a b : Word} (v : Byte) (h : b ≠ a) :
    (s.writeByte a v).readByte b = s.readByte b := by
  rw [State.writeByte_flat hb, State.readByte_flat (by exact hb), State.readByte_flat hb]
  exact Memory.read_write_other s.mem v (fun e => h (BitVec.eq_of_toNat_eq e))

/-- Reading a byte looks at `BUS` and what is behind it alone. -/
theorem State.readByte_congr {s t : State} (hb : s.cfg.bus = t.cfg.bus) (hm : s.mem = t.mem)
    (hd : s.device = t.device) (a : Word) : s.readByte a = t.readByte a := by
  rw [State.readByte, State.readByte, hb, hm, hd]

/-- Writing bytes changes nothing but what is behind `BUS`. -/
theorem State.writeBytes_frame (cells : List (Word × Byte)) (s : State) :
    s.writeBytes cells = { s with mem := (s.writeBytes cells).mem, device := (s.writeBytes cells).device } := by
  induction cells generalizing s with
  | nil => rfl
  | cons c rest ih => exact ih (s.writeByte c.1 c.2)

theorem State.writeBytes_wf (cells : List (Word × Byte)) {s : State} (h : Memory.wf s.mem = true) :
    Memory.wf (s.writeBytes cells).mem = true := by
  induction cells generalizing s with
  | nil => exact h
  | cons c rest ih => exact ih (State.writeByte_wf h c.1 c.2)

theorem State.readByte_writeBytes_other (cells : List (Word × Byte)) {s : State} (hb : s.cfg.bus = .flat) {a : Word}
    (h : a ∉ cells.map Prod.fst) : (s.writeBytes cells).readByte a = s.readByte a := by
  induction cells generalizing s with
  | nil => rfl
  | cons c rest ih =>
    rw [List.map_cons, List.mem_cons, not_or] at h
    exact (ih (s := s.writeByte c.1 c.2) hb h.2).trans (State.readByte_writeByte_other hb c.2 h.1)

theorem State.readByte_writeBytes_mem {cells : List (Word × Byte)} {s : State} (hb : s.cfg.bus = .flat)
    (hw : Memory.wf s.mem = true) (hn : (cells.map Prod.fst).Nodup) {c : Word × Byte} (hc : c ∈ cells) :
    (s.writeBytes cells).readByte c.1 = c.2 := by
  induction cells generalizing s with
  | nil => exact absurd hc List.not_mem_nil
  | cons c' rest ih =>
    rw [List.map_cons, List.nodup_cons] at hn
    rcases List.mem_cons.mp hc with rfl | h
    · exact (State.readByte_writeBytes_other rest (s := s.writeByte c.1 c.2) hb hn.1).trans
        (State.readByte_writeByte_same hb hw c.1 c.2)
    · exact ih (s := s.writeByte c'.1 c'.2) hb (State.writeByte_wf hw c'.1 c'.2) hn.2 h

/-! ## Equal memories -/

/-- Two canonical memories that read alike are equal. -/
theorem Memory.eq_of_read_eq {low : Nat} {m n : Memory} (hm : Memory.wfFrom low m = true) (hn : Memory.wfFrom low n = true)
    (h : ∀ a, Memory.read m a = Memory.read n a) : m = n := by
  induction m generalizing low n with
  | nil =>
    cases n with
    | nil => rfl
    | cons c rest =>
      obtain ⟨k, w⟩ := c
      simp only [Memory.wfFrom, Bool.and_eq_true, decide_eq_true_eq] at hn
      have := h k
      rw [Memory.read_cons, if_pos rfl] at this
      exact absurd this.symm hn.1.2
  | cons c rest ih =>
    obtain ⟨k, w⟩ := c
    have hm' := hm
    simp only [Memory.wfFrom, Bool.and_eq_true, decide_eq_true_eq] at hm'
    cases n with
    | nil =>
      have := h k
      rw [Memory.read_cons, if_pos rfl] at this
      exact absurd this hm'.1.2
    | cons c' rest' =>
      obtain ⟨k', w'⟩ := c'
      have hn' := hn
      simp only [Memory.wfFrom, Bool.and_eq_true, decide_eq_true_eq] at hn'
      have hk : k = k' := by
        rcases Nat.lt_trichotomy k k' with hlt | heq | hgt
        · have := h k
          rw [Memory.read_cons, if_pos rfl, Memory.read_cons, if_neg (by omega),
            Memory.read_of_wfFrom hn'.2 (by omega)] at this
          exact absurd this hm'.1.2
        · exact heq
        · have := h k'
          rw [Memory.read_cons, if_neg (by omega), Memory.read_of_wfFrom hm'.2 (by omega), Memory.read_cons,
            if_pos rfl] at this
          exact absurd this.symm hn'.1.2
      subst hk
      have hw : w = w' := by simpa [Memory.read_cons] using h k
      subst hw
      congr 1
      refine ih hm'.2 hn'.2 fun a => ?_
      by_cases hak : k = a
      · subst hak
        rw [Memory.read_of_wfFrom hm'.2 (by omega), Memory.read_of_wfFrom hn'.2 (by omega)]
      · simpa [Memory.read_cons, hak] using h a

/-- Writes to two addresses can be made in either order. -/
theorem Memory.write_comm {m : Memory} (h : Memory.wf m = true) {a b : Word} (hab : a ≠ b) (v w : Byte) :
    Memory.write (Memory.write m a.toNat v) b.toNat w = Memory.write (Memory.write m b.toNat w) a.toNat v := by
  have ha := Memory.wf_write h a v
  have hb := Memory.wf_write h b w
  refine Memory.eq_of_read_eq (Memory.wf_write ha b w) (Memory.wf_write hb a v) fun x => ?_
  have hne : a.toNat ≠ b.toNat := fun e => hab (BitVec.eq_of_toNat_eq e)
  by_cases hxa : x = a.toNat
  · subst hxa
    rw [Memory.read_write_same hb, Memory.read_write_other _ _ hne, Memory.read_write_same h]
  · by_cases hxb : x = b.toNat
    · subst hxb
      rw [Memory.read_write_same ha, Memory.read_write_other _ _ (Ne.symm hne), Memory.read_write_same h]
    · rw [Memory.read_write_other _ _ hxb, Memory.read_write_other _ _ hxa, Memory.read_write_other _ _ hxa,
        Memory.read_write_other _ _ hxb]

/-- On the default `BUS`, writes to two addresses can be made in either order. -/
theorem State.writeByte_comm {s : State} (hb : s.cfg.bus = .flat) (h : Memory.wf s.mem = true) {a b : Word}
    (hab : a ≠ b) (v w : Byte) : (s.writeByte a v).writeByte b w = (s.writeByte b w).writeByte a v := by
  rw [State.writeByte_flat hb, State.writeByte_flat hb]
  simp only [State.writeByte_flat, hb]
  rw [Memory.write_comm h hab]

end Sys2Proof.Machine
end

