-- ==== Sys2Proof/Laws/Ops.lean ====
section
/-! SUPPORT. What each shared operation over memory, the stack and interrupts can do, said once. -/

namespace Sys2Proof.Machine

/-! ## Words in memory -/

/-- The only address whose successor lies outside the address space. -/
theorem lastAddress_iff (a : Word) : 0xFFFF < a.toNat + 1 ↔ a = 0xFFFF#16 := by
  rw [← BitVec.toNat_inj, BitVec.toNat_ofNat]
  have := a.isLt
  omega

theorem State.readWord_eq (s : State) (a : Word) :
    s.readWord a =
      if a = 0xFFFF#16 then .error .addressOutOfRange
      else .ok (wordOfBytes s.cfg.wordOrder (s.readByte a) (s.readByte (a + 1))) := by
  simp only [State.readWord, lastAddress_iff]

theorem State.writeWordDown_eq (s : State) (a v : Word) :
    s.writeWordDown a v =
      if a = 0xFFFF#16 then .error .addressOutOfRange
      else .ok ((s.writeByte (a + 1) (upperByte s.cfg.wordOrder v)).writeByte a (lowerByte s.cfg.wordOrder v)) := by
  simp only [State.writeWordDown, lastAddress_iff]

theorem State.writeWordUp_eq (s : State) (a v : Word) :
    s.writeWordUp a v =
      if a = 0xFFFF#16 then .error .addressOutOfRange
      else .ok ((s.writeByte a (lowerByte s.cfg.wordOrder v)).writeByte (a + 1) (upperByte s.cfg.wordOrder v)) := by
  simp only [State.writeWordUp, lastAddress_iff]

theorem succ_ne (a : Word) : a + 1 ≠ a := by
  intro h
  bv_omega

/-! ## The stack -/

theorem sub_two_eq_iff (a : Word) : a - 2 = 0xFFFF#16 ↔ a = 0x0001#16 := by
  constructor <;> intro h <;> bv_omega

theorem sub_two_add_one (a : Word) : a - 2 + 1 = a - 1 := by bv_omega

theorem sub_two_add_two (a : Word) : a - 2 + 2 = a := by bv_omega

/-- All that a push does. -/
theorem State.push16_eq (s : State) (v : Word) :
    s.push16 v =
      if s.sp = 0x0001#16 then .error .addressOutOfRange
      else
        .ok { (s.writeByte (s.sp - 1) (upperByte s.cfg.wordOrder v)).writeByte (s.sp - 2)
                (lowerByte s.cfg.wordOrder v) with
              sp := s.sp - 2 } := by
  rw [State.push16, State.writeWordDown_eq, sub_two_add_one]
  by_cases h : s.sp = 0x0001#16
  · rw [if_pos ((sub_two_eq_iff s.sp).mpr h), if_pos h]
  · rw [if_neg (mt (sub_two_eq_iff s.sp).mp h), if_neg h]

/-- All that a pop does. -/
theorem State.pop16_eq (s : State) :
    s.pop16 =
      if s.sp = 0xFFFF#16 then .error .addressOutOfRange
      else
        .ok (wordOfBytes s.cfg.wordOrder (s.readByte s.sp) (s.readByte (s.sp + 1)), { s with sp := s.sp + 2 }) := by
  rw [State.pop16, State.readWord_eq]
  by_cases h : s.sp = 0xFFFF#16
  · simp [h]
  · simp [h]

/-! ## Interrupts -/

/-- All that a dispatch does. -/
theorem dispatchInterrupt_eq (s : State) :
    dispatchInterrupt s =
      if s.sp = 0x0001#16 then .next (s.raise .addressOutOfRange)
      else
        .next
          { ((s.writeByte addrIF (clearRequest (s.readByte addrIF) (lowestPending s.pending))).writeByte (s.sp - 1)
              (upperByte s.cfg.wordOrder s.pc)).writeByte (s.sp - 2) (lowerByte s.cfg.wordOrder s.pc) with
            sp := s.sp - 2
            pc := interruptVector (lowestPending s.pending)
            ime := false
            eiArmed := false
            haltbug := false
            cycles := s.cycles + 20 } := by
  simp only [dispatchInterrupt, State.push16_eq]
  by_cases h : s.sp = 0x0001#16
  · simp [h, State.writeByte, raised]
  · simp [h, State.writeByte]

/-- The chosen interrupt is one of the five. -/
theorem lowestPending_lt (p : Byte) : lowestPending p < 5 := by
  unfold lowestPending
  repeat' split
  all_goals omega

/-- The chosen interrupt is pending, and none below it is. -/
theorem lowestPending_spec (p : Byte) (h : p &&& 0x1F#8 ≠ 0#8) :
    p.getLsbD (lowestPending p) = true ∧ ∀ j < lowestPending p, p.getLsbD j = false := by
  revert p
  decide +kernel

end Sys2Proof.Machine
end

