-- ==== Sys2Proof/Laws/Exec.lean ====
section
/-! SUPPORT. `exec` on the rows of a family is the family's own step, for every operand: the case split over rows is
made here, once. Then what an instruction step gives. -/

namespace Sys2Proof.Machine

/-! ## Rows -/

/-- `LD` between two operands but for `HALT` costs 8 cycles when one of them is the byte at HL. -/
def ldCost : Operand8 → Operand8 → Nat
  | .reg _, .reg _ => 4
  | _, _ => 8

/-- An operand read, or read and written, in one more or two more memory cycles when it is the byte at HL. -/
def withHL (o : Operand8) (plain atHL : Nat) : Nat :=
  match o with
  | .reg _ => plain
  | .atHL => atHL

theorem exec_ld (d r : Operand8) (s : State) (h : d ≠ .atHL ∨ r ≠ .atHL) :
    exec (Row.ld d r) s = ldStep d r (ldCost d r) s := by
  rcases d with q | _ <;> rcases r with r | _
  · cases q <;> cases r <;> rfl
  · cases q <;> rfl
  · cases r <;> rfl
  · simp at h

theorem exec_ldImm (d : Operand8) (n8 : Byte) (s : State) :
    exec (Row.ldImm d n8) s = ldImmStep d n8 (withHL d 8 12) s := by
  rcases d with q | _
  · cases q <;> rfl
  · rfl

theorem exec_alu (op : AluOp) (o : Operand8) (s : State) :
    exec (Row.alu op o) s = aluStep op 1 (withHL o 4 8) (fun s => s.operand o) s := by
  rcases o with q | _
  · cases op <;> cases q <;> rfl
  · cases op <;> rfl

theorem exec_aluImm (op : AluOp) (n8 : Byte) (s : State) :
    exec (Row.aluImm op n8) s = aluStep op 2 8 (fun _ => n8) s := by
  cases op <;> rfl

theorem exec_inc (o : Operand8) (s : State) : exec (Row.inc o) s = incStep o (withHL o 4 12) s := by
  rcases o with q | _
  · cases q <;> rfl
  · rfl

theorem exec_dec (o : Operand8) (s : State) : exec (Row.dec o) s = decStep o (withHL o 4 12) s := by
  rcases o with q | _
  · cases q <;> rfl
  · rfl

theorem exec_shift (op : ShiftOp) (o : Operand8) (s : State) :
    exec (Row.shift op o) s = shiftStep op o (withHL o 8 16) s := by
  rcases o with q | _
  · cases op <;> cases q <;> rfl
  · cases op <;> rfl

/-- The eight bit numbers one by one. -/
theorem forall_bit {p : Fin 8 → Prop} (h : p 0 ∧ p 1 ∧ p 2 ∧ p 3 ∧ p 4 ∧ p 5 ∧ p 6 ∧ p 7) (b : Fin 8) : p b := by
  obtain ⟨h0, h1, h2, h3, h4, h5, h6, h7⟩ := h
  match b with
  | 0 => exact h0
  | 1 => exact h1
  | 2 => exact h2
  | 3 => exact h3
  | 4 => exact h4
  | 5 => exact h5
  | 6 => exact h6
  | 7 => exact h7

theorem exec_bit (b : Fin 8) (o : Operand8) (s : State) :
    exec (Row.bit b o) s = bitStep b.val o (withHL o 8 12) s := by
  revert b
  refine forall_bit ?_
  rcases o with q | _
  · cases q <;> exact ⟨rfl, rfl, rfl, rfl, rfl, rfl, rfl, rfl⟩
  · exact ⟨rfl, rfl, rfl, rfl, rfl, rfl, rfl, rfl⟩

theorem exec_res (b : Fin 8) (o : Operand8) (s : State) :
    exec (Row.res b o) s = resStep b.val o (withHL o 8 16) s := by
  revert b
  refine forall_bit ?_
  rcases o with q | _
  · cases q <;> exact ⟨rfl, rfl, rfl, rfl, rfl, rfl, rfl, rfl⟩
  · exact ⟨rfl, rfl, rfl, rfl, rfl, rfl, rfl, rfl⟩

theorem exec_set (b : Fin 8) (o : Operand8) (s : State) :
    exec (Row.set b o) s = setStep b.val o (withHL o 8 16) s := by
  revert b
  refine forall_bit ?_
  rcases o with q | _
  · cases q <;> exact ⟨rfl, rfl, rfl, rfl, rfl, rfl, rfl, rfl⟩
  · exact ⟨rfl, rfl, rfl, rfl, rfl, rfl, rfl, rfl⟩

theorem exec_ldPair (p : RR) (m1 m2 : Byte) (s : State) : exec (Row.ldPair p m1 m2) s = ldPairStep p m1 m2 s := by
  cases p <;> rfl

theorem exec_addHL (p : RR) (s : State) : exec (Row.addHL p) s = addHLStep p s := by cases p <;> rfl

theorem exec_incPair (p : RR) (s : State) : exec (Row.incPair p) s = movePairStep p 1 s := by cases p <;> rfl

theorem exec_decPair (p : RR) (s : State) : exec (Row.decPair p) s = movePairStep p (-1) s := by cases p <;> rfl

theorem exec_push (q : QQ) (s : State) : exec (Row.push q) s = pushStep q s := by cases q <;> rfl

theorem exec_pop (q : QQ) (s : State) : exec (Row.pop q) s = popStep q s := by cases q <;> rfl

theorem exec_jpIf (cc : Cond) (m1 m2 : Byte) (s : State) : exec (Row.jpIf cc m1 m2) s = jpIfStep cc m1 m2 s := by
  cases cc <;> rfl

theorem exec_jrIf (cc : Cond) (n8 : Byte) (s : State) : exec (Row.jrIf cc n8) s = jrIfStep cc n8 s := by
  cases cc <;> rfl

theorem exec_callIf (cc : Cond) (m1 m2 : Byte) (s : State) :
    exec (Row.callIf cc m1 m2) s = callIfStep cc m1 m2 s := by
  cases cc <;> rfl

theorem exec_retIf (cc : Cond) (s : State) : exec (Row.retIf cc) s = retIfStep cc s := by cases cc <;> rfl

theorem exec_rst (k : Fin 8) (s : State) : exec (Row.rst k) s = rstStep (8 * k.val) s := by
  revert k
  exact forall_bit ⟨rfl, rfl, rfl, rfl, rfl, rfl, rfl, rfl⟩

theorem exec_illegal {i : Instr} (h : i ∈ Row.illegals) (s : State) : exec i s = illegalStep s := by
  simp only [Row.illegals, List.mem_cons, List.not_mem_nil, or_false] at h
  rcases h with rfl | rfl | rfl | rfl | rfl | rfl | rfl | rfl | rfl | rfl | rfl <;> rfl

/-! ## The step -/

/-- All that a plain instruction step does: it cannot fault, and it goes on at `pc_next`. -/
theorem plainStep_eq (len cost : Nat) (f : State → State) (s : State) :
    plainStep len cost f s =
      .next { f { s with haltbug := false } with
              pc := s.pcNext len
              ime := (f { s with haltbug := false }).ime || (s.eiArmed && (f { s with haltbug := false }).eiArmed)
              eiArmed := false
              cycles := (f { s with haltbug := false }).cycles + cost } := rfl

/-- A plain instruction step whose effect keeps IME, `ei_armed` and `cycles`, said with the effect on the state
itself. -/
theorem plainStep_next {len cost : Nat} {f : State → State} (s u : State)
    (hu : f { s with haltbug := false } = { u with haltbug := false }) (hi : u.ime = s.ime)
    (he : u.eiArmed = s.eiArmed) (hc : u.cycles = s.cycles) :
    plainStep len cost f s =
      .next { u with pc := s.pcNext len, haltbug := false, ime := s.ime || s.eiArmed, eiArmed := false
                     cycles := s.cycles + cost } := by
  rw [plainStep_eq, hu]
  simp [hi, he, hc]

/-- `haltbug` stands apart from the registers and memory. -/
theorem State.setReg_haltbug_false (s : State) (q : R7) (v : Byte) :
    ({ s with haltbug := false } : State).setReg q v = { s.setReg q v with haltbug := false } := by
  cases q <;> rfl

/-- See `State.setReg_haltbug_false`. -/
theorem State.setOperand_haltbug_false (s : State) (o : Operand8) (v : Byte) :
    ({ s with haltbug := false } : State).setOperand o v = { s.setOperand o v with haltbug := false } := by
  cases o with
  | reg q => exact State.setReg_haltbug_false s q v
  | atHL => rfl

/-- See `State.setReg_haltbug_false`. -/
theorem State.setPair_haltbug_false (s : State) (p : RR) (v : Word) :
    ({ s with haltbug := false } : State).setPair p v = { s.setPair p v with haltbug := false } := by
  cases p <;> rfl

/-- See `State.setReg_haltbug_false`. -/
theorem State.setStackPair_haltbug_false (s : State) (p : QQ) (v : Word) :
    ({ s with haltbug := false } : State).setStackPair p v = { s.setStackPair p v with haltbug := false } := by
  cases p <;> rfl

@[simp] theorem State.reg_haltbug_false (s : State) (q : R7) :
    ({ s with haltbug := false } : State).reg q = s.reg q := by
  cases q <;> rfl

@[simp] theorem State.operand_haltbug_false (s : State) (o : Operand8) :
    ({ s with haltbug := false } : State).operand o = s.operand o := by
  cases o with
  | reg q => cases q <;> rfl
  | atHL => rfl

@[simp] theorem State.pair_haltbug_false (s : State) (p : RR) :
    ({ s with haltbug := false } : State).pair p = s.pair p := by
  cases p <;> rfl

@[simp] theorem State.stackPair_haltbug_false (s : State) (p : QQ) :
    ({ s with haltbug := false } : State).stackPair p = s.stackPair p := by
  cases p <;> rfl

/-- A rule that raises. -/
theorem instrStep_error {len cost notTaken : Nat} {rule : State → Word → Except FaultKind Effect} {s : State}
    {k : FaultKind} (h : rule { s with haltbug := false } (s.pcNext len) = .error k) :
    instrStep len cost notTaken rule s = .next (s.raise k) := by
  simp only [instrStep, h, raised]

/-- A rule that does not raise. -/
theorem instrStep_ok {len cost notTaken : Nat} {rule : State → Word → Except FaultKind Effect} {s : State} {x : Effect}
    (h : rule { s with haltbug := false } (s.pcNext len) = .ok x) :
    instrStep len cost notTaken rule s = .next (retire s len cost notTaken x) := by
  simp only [instrStep, h]

/-- All that an instruction step can do. -/
theorem instrStep_cases {len cost notTaken : Nat} {rule : State → Word → Except FaultKind Effect} {s : State}
    {r : Result} (h : instrStep len cost notTaken rule s = r) :
    (∃ k, rule { s with haltbug := false } (s.pcNext len) = .error k ∧ r = .next (s.raise k)) ∨
    (∃ x, rule { s with haltbug := false } (s.pcNext len) = .ok x ∧ r = .next (retire s len cost notTaken x)) := by
  cases hr : rule { s with haltbug := false } (s.pcNext len) with
  | error k => exact .inl ⟨k, rfl, by rw [← h, instrStep_error hr]⟩
  | ok x => exact .inr ⟨x, rfl, by rw [← h, instrStep_ok hr]⟩

end Sys2Proof.Machine
end

