-- ==== Sys2Proof/Laws/Families.lean ====
section
/-! SUPPORT. What holds of every family of rows holds of every instruction: the split of 512 rows into families, made
once. A proof about every instruction gives one proof for each family. -/

namespace Sys2Proof

theorem Instr.byFamily {P : Instr → Prop}
    (ld : ∀ d r, d ≠ .atHL ∨ r ≠ .atHL → P (Row.ld d r))
    (ldImm : ∀ d n8, P (Row.ldImm d n8))
    (alu : ∀ op o, P (Row.alu op o))
    (aluImm : ∀ op n8, P (Row.aluImm op n8))
    (inc : ∀ o, P (Row.inc o))
    (dec : ∀ o, P (Row.dec o))
    (shift : ∀ op o, P (Row.shift op o))
    (bit : ∀ b o, P (Row.bit b o))
    (res : ∀ b o, P (Row.res b o))
    (set : ∀ b o, P (Row.set b o))
    (ldPair : ∀ p m1 m2, P (Row.ldPair p m1 m2))
    (addHL : ∀ p, P (Row.addHL p))
    (incPair : ∀ p, P (Row.incPair p))
    (decPair : ∀ p, P (Row.decPair p))
    (push : ∀ q, P (Row.push q))
    (pop : ∀ q, P (Row.pop q))
    (jpIf : ∀ cc m1 m2, P (Row.jpIf cc m1 m2))
    (callIf : ∀ cc m1 m2, P (Row.callIf cc m1 m2))
    (jrIf : ∀ cc n8, P (Row.jrIf cc n8))
    (retIf : ∀ cc, P (Row.retIf cc))
    (rst : ∀ k, P (Row.rst k))
    (illegal : ∀ i ∈ Row.illegals, P i)
    (nop : P .nop)
    (ldAtBCA : P .ldAtBCA)
    (rlca : P .rlca)
    (ldAtA16SP : ∀ m1 m2, P (.ldAtA16SP m1 m2))
    (ldAAtBC : P .ldAAtBC)
    (rrca : P .rrca)
    (stop : ∀ pad, P (.stop pad))
    (ldAtDEA : P .ldAtDEA)
    (rla : P .rla)
    (jrR8 : ∀ n8, P (.jrR8 n8))
    (ldAAtDE : P .ldAAtDE)
    (rra : P .rra)
    (ldAtHLIncA : P .ldAtHLIncA)
    (daa : P .daa)
    (ldAAtHLInc : P .ldAAtHLInc)
    (cpl : P .cpl)
    (ldAtHLDecA : P .ldAtHLDecA)
    (scf : P .scf)
    (ldAAtHLDec : P .ldAAtHLDec)
    (ccf : P .ccf)
    (halt : P .halt)
    (jpA16 : ∀ m1 m2, P (.jpA16 m1 m2))
    (ret : P .ret)
    (prefixCB : ∀ op, P (.prefixCB op))
    (callA16 : ∀ m1 m2, P (.callA16 m1 m2))
    (reti : P .reti)
    (ldhAtA8A : ∀ n8, P (.ldhAtA8A n8))
    (ldAtCA : P .ldAtCA)
    (addSPR8 : ∀ n8, P (.addSPR8 n8))
    (jpHL : P .jpHL)
    (ldAtA16A : ∀ m1 m2, P (.ldAtA16A m1 m2))
    (ldhAAtA8 : ∀ n8, P (.ldhAAtA8 n8))
    (ldAAtC : P .ldAAtC)
    (di : P .di)
    (ldHLSPR8 : ∀ n8, P (.ldHLSPR8 n8))
    (ldSPHL : P .ldSPHL)
    (ldAAtA16 : ∀ m1 m2, P (.ldAAtA16 m1 m2))
    (ei : P .ei)
    : ∀ i, P i
  | .nop => nop
  | .ldBCD16 m1 m2 => ldPair .bc m1 m2
  | .ldAtBCA => ldAtBCA
  | .incBC => incPair .bc
  | .incB => inc (.reg .b)
  | .decB => dec (.reg .b)
  | .ldBD8 n8 => ldImm (.reg .b) n8
  | .rlca => rlca
  | .ldAtA16SP m1 m2 => ldAtA16SP m1 m2
  | .addHLBC => addHL .bc
  | .ldAAtBC => ldAAtBC
  | .decBC => decPair .bc
  | .incC => inc (.reg .c)
  | .decC => dec (.reg .c)
  | .ldCD8 n8 => ldImm (.reg .c) n8
  | .rrca => rrca
  | .stop pad => stop pad
  | .ldDED16 m1 m2 => ldPair .de m1 m2
  | .ldAtDEA => ldAtDEA
  | .incDE => incPair .de
  | .incD => inc (.reg .d)
  | .decD => dec (.reg .d)
  | .ldDD8 n8 => ldImm (.reg .d) n8
  | .rla => rla
  | .jrR8 n8 => jrR8 n8
  | .addHLDE => addHL .de
  | .ldAAtDE => ldAAtDE
  | .decDE => decPair .de
  | .incE => inc (.reg .e)
  | .decE => dec (.reg .e)
  | .ldED8 n8 => ldImm (.reg .e) n8
  | .rra => rra
  | .jrNZR8 n8 => jrIf .nz n8
  | .ldHLD16 m1 m2 => ldPair .hl m1 m2
  | .ldAtHLIncA => ldAtHLIncA
  | .incHL => incPair .hl
  | .incH => inc (.reg .h)
  | .decH => dec (.reg .h)
  | .ldHD8 n8 => ldImm (.reg .h) n8
  | .daa => daa
  | .jrZR8 n8 => jrIf .z n8
  | .addHLHL => addHL .hl
  | .ldAAtHLInc => ldAAtHLInc
  | .decHL => decPair .hl
  | .incL => inc (.reg .l)
  | .decL => dec (.reg .l)
  | .ldLD8 n8 => ldImm (.reg .l) n8
  | .cpl => cpl
  | .jrNCR8 n8 => jrIf .nc n8
  | .ldSPD16 m1 m2 => ldPair .sp m1 m2
  | .ldAtHLDecA => ldAtHLDecA
  | .incSP => incPair .sp
  | .incAtHL => inc (.atHL)
  | .decAtHL => dec (.atHL)
  | .ldAtHLD8 n8 => ldImm (.atHL) n8
  | .scf => scf
  | .jrCR8 n8 => jrIf .c n8
  | .addHLSP => addHL .sp
  | .ldAAtHLDec => ldAAtHLDec
  | .decSP => decPair .sp
  | .incA => inc (.reg .a)
  | .decA => dec (.reg .a)
  | .ldAD8 n8 => ldImm (.reg .a) n8
  | .ccf => ccf
  | .ldBB => ld (.reg .b) (.reg .b) (by simp)
  | .ldBC => ld (.reg .b) (.reg .c) (by simp)
  | .ldBD => ld (.reg .b) (.reg .d) (by simp)
  | .ldBE => ld (.reg .b) (.reg .e) (by simp)
  | .ldBH => ld (.reg .b) (.reg .h) (by simp)
  | .ldBL => ld (.reg .b) (.reg .l) (by simp)
  | .ldBAtHL => ld (.reg .b) (.atHL) (by simp)
  | .ldBA => ld (.reg .b) (.reg .a) (by simp)
  | .ldCB => ld (.reg .c) (.reg .b) (by simp)
  | .ldCC => ld (.reg .c) (.reg .c) (by simp)
  | .ldCD => ld (.reg .c) (.reg .d) (by simp)
  | .ldCE => ld (.reg .c) (.reg .e) (by simp)
  | .ldCH => ld (.reg .c) (.reg .h) (by simp)
  | .ldCL => ld (.reg .c) (.reg .l) (by simp)
  | .ldCAtHL => ld (.reg .c) (.atHL) (by simp)
  | .ldCA => ld (.reg .c) (.reg .a) (by simp)
  | .ldDB => ld (.reg .d) (.reg .b) (by simp)
  | .ldDC => ld (.reg .d) (.reg .c) (by simp)
  | .ldDD => ld (.reg .d) (.reg .d) (by simp)
  | .ldDE => ld (.reg .d) (.reg .e) (by simp)
  | .ldDH => ld (.reg .d) (.reg .h) (by simp)
  | .ldDL => ld (.reg .d) (.reg .l) (by simp)
  | .ldDAtHL => ld (.reg .d) (.atHL) (by simp)
  | .ldDA => ld (.reg .d) (.reg .a) (by simp)
  | .ldEB => ld (.reg .e) (.reg .b) (by simp)
  | .ldEC => ld (.reg .e) (.reg .c) (by simp)
  | .ldED => ld (.reg .e) (.reg .d) (by simp)
  | .ldEE => ld (.reg .e) (.reg .e) (by simp)
  | .ldEH => ld (.reg .e) (.reg .h) (by simp)
  | .ldEL => ld (.reg .e) (.reg .l) (by simp)
  | .ldEAtHL => ld (.reg .e) (.atHL) (by simp)
  | .ldEA => ld (.reg .e) (.reg .a) (by simp)
  | .ldHB => ld (.reg .h) (.reg .b) (by simp)
  | .ldHC => ld (.reg .h) (.reg .c) (by simp)
  | .ldHD => ld (.reg .h) (.reg .d) (by simp)
  | .ldHE => ld (.reg .h) (.reg .e) (by simp)
  | .ldHH => ld (.reg .h) (.reg .h) (by simp)
  | .ldHL => ld (.reg .h) (.reg .l) (by simp)
  | .ldHAtHL => ld (.reg .h) (.atHL) (by simp)
  | .ldHA => ld (.reg .h) (.reg .a) (by simp)
  | .ldLB => ld (.reg .l) (.reg .b) (by simp)
  | .ldLC => ld (.reg .l) (.reg .c) (by simp)
  | .ldLD => ld (.reg .l) (.reg .d) (by simp)
  | .ldLE => ld (.reg .l) (.reg .e) (by simp)
  | .ldLH => ld (.reg .l) (.reg .h) (by simp)
  | .ldLL => ld (.reg .l) (.reg .l) (by simp)
  | .ldLAtHL => ld (.reg .l) (.atHL) (by simp)
  | .ldLA => ld (.reg .l) (.reg .a) (by simp)
  | .ldAtHLB => ld (.atHL) (.reg .b) (by simp)
  | .ldAtHLC => ld (.atHL) (.reg .c) (by simp)
  | .ldAtHLD => ld (.atHL) (.reg .d) (by simp)
  | .ldAtHLE => ld (.atHL) (.reg .e) (by simp)
  | .ldAtHLH => ld (.atHL) (.reg .h) (by simp)
  | .ldAtHLL => ld (.atHL) (.reg .l) (by simp)
  | .halt => halt
  | .ldAtHLA => ld (.atHL) (.reg .a) (by simp)
  | .ldAB => ld (.reg .a) (.reg .b) (by simp)
  | .ldAC => ld (.reg .a) (.reg .c) (by simp)
  | .ldAD => ld (.reg .a) (.reg .d) (by simp)
  | .ldAE => ld (.reg .a) (.reg .e) (by simp)
  | .ldAH => ld (.reg .a) (.reg .h) (by simp)
  | .ldAL => ld (.reg .a) (.reg .l) (by simp)
  | .ldAAtHL => ld (.reg .a) (.atHL) (by simp)
  | .ldAA => ld (.reg .a) (.reg .a) (by simp)
  | .addAB => alu .add (.reg .b)
  | .addAC => alu .add (.reg .c)
  | .addAD => alu .add (.reg .d)
  | .addAE => alu .add (.reg .e)
  | .addAH => alu .add (.reg .h)
  | .addAL => alu .add (.reg .l)
  | .addAAtHL => alu .add (.atHL)
  | .addAA => alu .add (.reg .a)
  | .adcAB => alu .adc (.reg .b)
  | .adcAC => alu .adc (.reg .c)
  | .adcAD => alu .adc (.reg .d)
  | .adcAE => alu .adc (.reg .e)
  | .adcAH => alu .adc (.reg .h)
  | .adcAL => alu .adc (.reg .l)
  | .adcAAtHL => alu .adc (.atHL)
  | .adcAA => alu .adc (.reg .a)
  | .subB => alu .sub (.reg .b)
  | .subC => alu .sub (.reg .c)
  | .subD => alu .sub (.reg .d)
  | .subE => alu .sub (.reg .e)
  | .subH => alu .sub (.reg .h)
  | .subL => alu .sub (.reg .l)
  | .subAtHL => alu .sub (.atHL)
  | .subA => alu .sub (.reg .a)
  | .sbcAB => alu .sbc (.reg .b)
  | .sbcAC => alu .sbc (.reg .c)
  | .sbcAD => alu .sbc (.reg .d)
  | .sbcAE => alu .sbc (.reg .e)
  | .sbcAH => alu .sbc (.reg .h)
  | .sbcAL => alu .sbc (.reg .l)
  | .sbcAAtHL => alu .sbc (.atHL)
  | .sbcAA => alu .sbc (.reg .a)
  | .andB => alu .and (.reg .b)
  | .andC => alu .and (.reg .c)
  | .andD => alu .and (.reg .d)
  | .andE => alu .and (.reg .e)
  | .andH => alu .and (.reg .h)
  | .andL => alu .and (.reg .l)
  | .andAtHL => alu .and (.atHL)
  | .andA => alu .and (.reg .a)
  | .xorB => alu .xor (.reg .b)
  | .xorC => alu .xor (.reg .c)
  | .xorD => alu .xor (.reg .d)
  | .xorE => alu .xor (.reg .e)
  | .xorH => alu .xor (.reg .h)
  | .xorL => alu .xor (.reg .l)
  | .xorAtHL => alu .xor (.atHL)
  | .xorA => alu .xor (.reg .a)
  | .orB => alu .or (.reg .b)
  | .orC => alu .or (.reg .c)
  | .orD => alu .or (.reg .d)
  | .orE => alu .or (.reg .e)
  | .orH => alu .or (.reg .h)
  | .orL => alu .or (.reg .l)
  | .orAtHL => alu .or (.atHL)
  | .orA => alu .or (.reg .a)
  | .cpB => alu .cp (.reg .b)
  | .cpC => alu .cp (.reg .c)
  | .cpD => alu .cp (.reg .d)
  | .cpE => alu .cp (.reg .e)
  | .cpH => alu .cp (.reg .h)
  | .cpL => alu .cp (.reg .l)
  | .cpAtHL => alu .cp (.atHL)
  | .cpA => alu .cp (.reg .a)
  | .retNZ => retIf .nz
  | .popBC => pop .bc
  | .jpNZA16 m1 m2 => jpIf .nz m1 m2
  | .jpA16 m1 m2 => jpA16 m1 m2
  | .callNZA16 m1 m2 => callIf .nz m1 m2
  | .pushBC => push .bc
  | .addAD8 n8 => aluImm .add n8
  | .rst00 => rst 0
  | .retZ => retIf .z
  | .ret => ret
  | .jpZA16 m1 m2 => jpIf .z m1 m2
  | .prefixCB op => prefixCB op
  | .callZA16 m1 m2 => callIf .z m1 m2
  | .callA16 m1 m2 => callA16 m1 m2
  | .adcAD8 n8 => aluImm .adc n8
  | .rst08 => rst 1
  | .retNC => retIf .nc
  | .popDE => pop .de
  | .jpNCA16 m1 m2 => jpIf .nc m1 m2
  | .illegalD3 => illegal _ (by decide)
  | .callNCA16 m1 m2 => callIf .nc m1 m2
  | .pushDE => push .de
  | .subD8 n8 => aluImm .sub n8
  | .rst10 => rst 2
  | .retC => retIf .c
  | .reti => reti
  | .jpCA16 m1 m2 => jpIf .c m1 m2
  | .illegalDB => illegal _ (by decide)
  | .callCA16 m1 m2 => callIf .c m1 m2
  | .illegalDD => illegal _ (by decide)
  | .sbcAD8 n8 => aluImm .sbc n8
  | .rst18 => rst 3
  | .ldhAtA8A n8 => ldhAtA8A n8
  | .popHL => pop .hl
  | .ldAtCA => ldAtCA
  | .illegalE3 => illegal _ (by decide)
  | .illegalE4 => illegal _ (by decide)
  | .pushHL => push .hl
  | .andD8 n8 => aluImm .and n8
  | .rst20 => rst 4
  | .addSPR8 n8 => addSPR8 n8
  | .jpHL => jpHL
  | .ldAtA16A m1 m2 => ldAtA16A m1 m2
  | .illegalEB => illegal _ (by decide)
  | .illegalEC => illegal _ (by decide)
  | .illegalED => illegal _ (by decide)
  | .xorD8 n8 => aluImm .xor n8
  | .rst28 => rst 5
  | .ldhAAtA8 n8 => ldhAAtA8 n8
  | .popAF => pop .af
  | .ldAAtC => ldAAtC
  | .di => di
  | .illegalF4 => illegal _ (by decide)
  | .pushAF => push .af
  | .orD8 n8 => aluImm .or n8
  | .rst30 => rst 6
  | .ldHLSPR8 n8 => ldHLSPR8 n8
  | .ldSPHL => ldSPHL
  | .ldAAtA16 m1 m2 => ldAAtA16 m1 m2
  | .ei => ei
  | .illegalFC => illegal _ (by decide)
  | .illegalFD => illegal _ (by decide)
  | .cpD8 n8 => aluImm .cp n8
  | .rst38 => rst 7
  | .rlcB => shift .rlc (.reg .b)
  | .rlcC => shift .rlc (.reg .c)
  | .rlcD => shift .rlc (.reg .d)
  | .rlcE => shift .rlc (.reg .e)
  | .rlcH => shift .rlc (.reg .h)
  | .rlcL => shift .rlc (.reg .l)
  | .rlcAtHL => shift .rlc (.atHL)
  | .rlcA => shift .rlc (.reg .a)
  | .rrcB => shift .rrc (.reg .b)
  | .rrcC => shift .rrc (.reg .c)
  | .rrcD => shift .rrc (.reg .d)
  | .rrcE => shift .rrc (.reg .e)
  | .rrcH => shift .rrc (.reg .h)
  | .rrcL => shift .rrc (.reg .l)
  | .rrcAtHL => shift .rrc (.atHL)
  | .rrcA => shift .rrc (.reg .a)
  | .rlB => shift .rl (.reg .b)
  | .rlC => shift .rl (.reg .c)
  | .rlD => shift .rl (.reg .d)
  | .rlE => shift .rl (.reg .e)
  | .rlH => shift .rl (.reg .h)
  | .rlL => shift .rl (.reg .l)
  | .rlAtHL => shift .rl (.atHL)
  | .rlA => shift .rl (.reg .a)
  | .rrB => shift .rr (.reg .b)
  | .rrC => shift .rr (.reg .c)
  | .rrD => shift .rr (.reg .d)
  | .rrE => shift .rr (.reg .e)
  | .rrH => shift .rr (.reg .h)
  | .rrL => shift .rr (.reg .l)
  | .rrAtHL => shift .rr (.atHL)
  | .rrA => shift .rr (.reg .a)
  | .slaB => shift .sla (.reg .b)
  | .slaC => shift .sla (.reg .c)
  | .slaD => shift .sla (.reg .d)
  | .slaE => shift .sla (.reg .e)
  | .slaH => shift .sla (.reg .h)
  | .slaL => shift .sla (.reg .l)
  | .slaAtHL => shift .sla (.atHL)
  | .slaA => shift .sla (.reg .a)
  | .sraB => shift .sra (.reg .b)
  | .sraC => shift .sra (.reg .c)
  | .sraD => shift .sra (.reg .d)
  | .sraE => shift .sra (.reg .e)
  | .sraH => shift .sra (.reg .h)
  | .sraL => shift .sra (.reg .l)
  | .sraAtHL => shift .sra (.atHL)
  | .sraA => shift .sra (.reg .a)
  | .swapB => shift .swap (.reg .b)
  | .swapC => shift .swap (.reg .c)
  | .swapD => shift .swap (.reg .d)
  | .swapE => shift .swap (.reg .e)
  | .swapH => shift .swap (.reg .h)
  | .swapL => shift .swap (.reg .l)
  | .swapAtHL => shift .swap (.atHL)
  | .swapA => shift .swap (.reg .a)
  | .srlB => shift .srl (.reg .b)
  | .srlC => shift .srl (.reg .c)
  | .srlD => shift .srl (.reg .d)
  | .srlE => shift .srl (.reg .e)
  | .srlH => shift .srl (.reg .h)
  | .srlL => shift .srl (.reg .l)
  | .srlAtHL => shift .srl (.atHL)
  | .srlA => shift .srl (.reg .a)
  | .bit0B => bit 0 (.reg .b)
  | .bit0C => bit 0 (.reg .c)
  | .bit0D => bit 0 (.reg .d)
  | .bit0E => bit 0 (.reg .e)
  | .bit0H => bit 0 (.reg .h)
  | .bit0L => bit 0 (.reg .l)
  | .bit0AtHL => bit 0 (.atHL)
  | .bit0A => bit 0 (.reg .a)
  | .bit1B => bit 1 (.reg .b)
  | .bit1C => bit 1 (.reg .c)
  | .bit1D => bit 1 (.reg .d)
  | .bit1E => bit 1 (.reg .e)
  | .bit1H => bit 1 (.reg .h)
  | .bit1L => bit 1 (.reg .l)
  | .bit1AtHL => bit 1 (.atHL)
  | .bit1A => bit 1 (.reg .a)
  | .bit2B => bit 2 (.reg .b)
  | .bit2C => bit 2 (.reg .c)
  | .bit2D => bit 2 (.reg .d)
  | .bit2E => bit 2 (.reg .e)
  | .bit2H => bit 2 (.reg .h)
  | .bit2L => bit 2 (.reg .l)
  | .bit2AtHL => bit 2 (.atHL)
  | .bit2A => bit 2 (.reg .a)
  | .bit3B => bit 3 (.reg .b)
  | .bit3C => bit 3 (.reg .c)
  | .bit3D => bit 3 (.reg .d)
  | .bit3E => bit 3 (.reg .e)
  | .bit3H => bit 3 (.reg .h)
  | .bit3L => bit 3 (.reg .l)
  | .bit3AtHL => bit 3 (.atHL)
  | .bit3A => bit 3 (.reg .a)
  | .bit4B => bit 4 (.reg .b)
  | .bit4C => bit 4 (.reg .c)
  | .bit4D => bit 4 (.reg .d)
  | .bit4E => bit 4 (.reg .e)
  | .bit4H => bit 4 (.reg .h)
  | .bit4L => bit 4 (.reg .l)
  | .bit4AtHL => bit 4 (.atHL)
  | .bit4A => bit 4 (.reg .a)
  | .bit5B => bit 5 (.reg .b)
  | .bit5C => bit 5 (.reg .c)
  | .bit5D => bit 5 (.reg .d)
  | .bit5E => bit 5 (.reg .e)
  | .bit5H => bit 5 (.reg .h)
  | .bit5L => bit 5 (.reg .l)
  | .bit5AtHL => bit 5 (.atHL)
  | .bit5A => bit 5 (.reg .a)
  | .bit6B => bit 6 (.reg .b)
  | .bit6C => bit 6 (.reg .c)
  | .bit6D => bit 6 (.reg .d)
  | .bit6E => bit 6 (.reg .e)
  | .bit6H => bit 6 (.reg .h)
  | .bit6L => bit 6 (.reg .l)
  | .bit6AtHL => bit 6 (.atHL)
  | .bit6A => bit 6 (.reg .a)
  | .bit7B => bit 7 (.reg .b)
  | .bit7C => bit 7 (.reg .c)
  | .bit7D => bit 7 (.reg .d)
  | .bit7E => bit 7 (.reg .e)
  | .bit7H => bit 7 (.reg .h)
  | .bit7L => bit 7 (.reg .l)
  | .bit7AtHL => bit 7 (.atHL)
  | .bit7A => bit 7 (.reg .a)
  | .res0B => res 0 (.reg .b)
  | .res0C => res 0 (.reg .c)
  | .res0D => res 0 (.reg .d)
  | .res0E => res 0 (.reg .e)
  | .res0H => res 0 (.reg .h)
  | .res0L => res 0 (.reg .l)
  | .res0AtHL => res 0 (.atHL)
  | .res0A => res 0 (.reg .a)
  | .res1B => res 1 (.reg .b)
  | .res1C => res 1 (.reg .c)
  | .res1D => res 1 (.reg .d)
  | .res1E => res 1 (.reg .e)
  | .res1H => res 1 (.reg .h)
  | .res1L => res 1 (.reg .l)
  | .res1AtHL => res 1 (.atHL)
  | .res1A => res 1 (.reg .a)
  | .res2B => res 2 (.reg .b)
  | .res2C => res 2 (.reg .c)
  | .res2D => res 2 (.reg .d)
  | .res2E => res 2 (.reg .e)
  | .res2H => res 2 (.reg .h)
  | .res2L => res 2 (.reg .l)
  | .res2AtHL => res 2 (.atHL)
  | .res2A => res 2 (.reg .a)
  | .res3B => res 3 (.reg .b)
  | .res3C => res 3 (.reg .c)
  | .res3D => res 3 (.reg .d)
  | .res3E => res 3 (.reg .e)
  | .res3H => res 3 (.reg .h)
  | .res3L => res 3 (.reg .l)
  | .res3AtHL => res 3 (.atHL)
  | .res3A => res 3 (.reg .a)
  | .res4B => res 4 (.reg .b)
  | .res4C => res 4 (.reg .c)
  | .res4D => res 4 (.reg .d)
  | .res4E => res 4 (.reg .e)
  | .res4H => res 4 (.reg .h)
  | .res4L => res 4 (.reg .l)
  | .res4AtHL => res 4 (.atHL)
  | .res4A => res 4 (.reg .a)
  | .res5B => res 5 (.reg .b)
  | .res5C => res 5 (.reg .c)
  | .res5D => res 5 (.reg .d)
  | .res5E => res 5 (.reg .e)
  | .res5H => res 5 (.reg .h)
  | .res5L => res 5 (.reg .l)
  | .res5AtHL => res 5 (.atHL)
  | .res5A => res 5 (.reg .a)
  | .res6B => res 6 (.reg .b)
  | .res6C => res 6 (.reg .c)
  | .res6D => res 6 (.reg .d)
  | .res6E => res 6 (.reg .e)
  | .res6H => res 6 (.reg .h)
  | .res6L => res 6 (.reg .l)
  | .res6AtHL => res 6 (.atHL)
  | .res6A => res 6 (.reg .a)
  | .res7B => res 7 (.reg .b)
  | .res7C => res 7 (.reg .c)
  | .res7D => res 7 (.reg .d)
  | .res7E => res 7 (.reg .e)
  | .res7H => res 7 (.reg .h)
  | .res7L => res 7 (.reg .l)
  | .res7AtHL => res 7 (.atHL)
  | .res7A => res 7 (.reg .a)
  | .set0B => set 0 (.reg .b)
  | .set0C => set 0 (.reg .c)
  | .set0D => set 0 (.reg .d)
  | .set0E => set 0 (.reg .e)
  | .set0H => set 0 (.reg .h)
  | .set0L => set 0 (.reg .l)
  | .set0AtHL => set 0 (.atHL)
  | .set0A => set 0 (.reg .a)
  | .set1B => set 1 (.reg .b)
  | .set1C => set 1 (.reg .c)
  | .set1D => set 1 (.reg .d)
  | .set1E => set 1 (.reg .e)
  | .set1H => set 1 (.reg .h)
  | .set1L => set 1 (.reg .l)
  | .set1AtHL => set 1 (.atHL)
  | .set1A => set 1 (.reg .a)
  | .set2B => set 2 (.reg .b)
  | .set2C => set 2 (.reg .c)
  | .set2D => set 2 (.reg .d)
  | .set2E => set 2 (.reg .e)
  | .set2H => set 2 (.reg .h)
  | .set2L => set 2 (.reg .l)
  | .set2AtHL => set 2 (.atHL)
  | .set2A => set 2 (.reg .a)
  | .set3B => set 3 (.reg .b)
  | .set3C => set 3 (.reg .c)
  | .set3D => set 3 (.reg .d)
  | .set3E => set 3 (.reg .e)
  | .set3H => set 3 (.reg .h)
  | .set3L => set 3 (.reg .l)
  | .set3AtHL => set 3 (.atHL)
  | .set3A => set 3 (.reg .a)
  | .set4B => set 4 (.reg .b)
  | .set4C => set 4 (.reg .c)
  | .set4D => set 4 (.reg .d)
  | .set4E => set 4 (.reg .e)
  | .set4H => set 4 (.reg .h)
  | .set4L => set 4 (.reg .l)
  | .set4AtHL => set 4 (.atHL)
  | .set4A => set 4 (.reg .a)
  | .set5B => set 5 (.reg .b)
  | .set5C => set 5 (.reg .c)
  | .set5D => set 5 (.reg .d)
  | .set5E => set 5 (.reg .e)
  | .set5H => set 5 (.reg .h)
  | .set5L => set 5 (.reg .l)
  | .set5AtHL => set 5 (.atHL)
  | .set5A => set 5 (.reg .a)
  | .set6B => set 6 (.reg .b)
  | .set6C => set 6 (.reg .c)
  | .set6D => set 6 (.reg .d)
  | .set6E => set 6 (.reg .e)
  | .set6H => set 6 (.reg .h)
  | .set6L => set 6 (.reg .l)
  | .set6AtHL => set 6 (.atHL)
  | .set6A => set 6 (.reg .a)
  | .set7B => set 7 (.reg .b)
  | .set7C => set 7 (.reg .c)
  | .set7D => set 7 (.reg .d)
  | .set7E => set 7 (.reg .e)
  | .set7H => set 7 (.reg .h)
  | .set7L => set 7 (.reg .l)
  | .set7AtHL => set 7 (.atHL)
  | .set7A => set 7 (.reg .a)

end Sys2Proof
end

