-- ==== Sys2Proof/Laws/Flags.lean ====
section
/-! SUPPORT. What each flag computation and shift gives, in bit-vector arithmetic and comparisons: one lemma each, for
a proof to cite in place of the definition. -/

namespace Sys2Proof.Machine

theorem add8_eq (a b : Byte) (cin : Bool) :
    add8 a b cin = ⟨a + b + Claims.carryByte cin, a + b + Claims.carryByte cin == 0#8,
      decide (0xF < a.toNat % 16 + b.toNat % 16 + cin.toNat), decide (0xFF < a.toNat + b.toNat + cin.toNat)⟩ := by
  have h1 : BitVec.ofNat 8 (a.toNat + b.toNat + cin.toNat) = a + b + Claims.carryByte cin := by
    apply BitVec.eq_of_toNat_eq
    cases cin <;> simp [Claims.carryByte, BitVec.toNat_add]
  have h2 : ((a.toNat + b.toNat + cin.toNat) % 256 == 0) = (a + b + Claims.carryByte cin == 0#8) := by
    rw [← h1, Bool.eq_iff_iff]
    simp only [beq_iff_eq, ← BitVec.toNat_inj, BitVec.toNat_ofNat]
  simp only [add8, h1, h2]

theorem sub8_eq (a b : Byte) (bin : Bool) :
    sub8 a b bin = ⟨a - b - Claims.carryByte bin, a - b - Claims.carryByte bin == 0#8,
      decide (a.toNat % 16 < b.toNat % 16 + bin.toNat), decide (a.toNat < b.toNat + bin.toNat)⟩ := by
  have h1 : BitVec.ofInt 8 ((a.toNat : Int) - b.toNat - bin.toNat) = a - b - Claims.carryByte bin := by
    apply BitVec.eq_of_toNat_eq
    have := a.isLt
    have := b.isLt
    cases bin <;> simp [Claims.carryByte, BitVec.toNat_ofInt, BitVec.toNat_sub] <;> omega
  have h2 : (((a.toNat : Int) - b.toNat - bin.toNat) % 256 == 0) = (a - b - Claims.carryByte bin == 0#8) := by
    rw [← h1, Bool.eq_iff_iff]
    simp only [beq_iff_eq, ← BitVec.toNat_inj, BitVec.toNat_ofInt]
    simp
    omega
  simp only [sub8, h1, h2]

/-- A byte plus one: H is set on a low nibble of 15. -/
theorem add8_one (v : Byte) :
    add8 v 1 false = ⟨v + 1, v == 0xFF#8, v &&& 0x0F#8 == 0x0F#8, (add8 v 1 false).c⟩ := by
  revert v
  decide +kernel

/-- A byte less one: H is set on a low nibble of 0. -/
theorem sub8_one (v : Byte) :
    sub8 v 1 false = ⟨v - 1, v == 0x01#8, v &&& 0x0F#8 == 0x00#8, (sub8 v 1 false).c⟩ := by
  revert v
  decide +kernel

theorem addHLCompute_eq (x y : Word) :
    addHLCompute x y =
      ⟨x + y, decide (0x0FFF < x.toNat % 0x1000 + y.toNat % 0x1000), decide (0xFFFF < x.toNat + y.toNat)⟩ := by
  have : BitVec.ofNat 16 (x.toNat + y.toNat) = x + y := by
    apply BitVec.eq_of_toNat_eq
    simp
  simp only [addHLCompute, this]

theorem addSigned_eq (v : Word) (n8 : Byte) : addSigned v n8 = v + n8.signExtend 16 := by
  apply BitVec.eq_of_toInt_eq
  have h1 : (BitVec.signExtend 16 n8).toInt = n8.toInt := BitVec.toInt_signExtend_of_le (by omega)
  simp [addSigned, sext8, BitVec.toInt_add, BitVec.toInt_ofInt, h1, BitVec.toInt_eq_toNat_bmod v]

theorem spaddCompute_eq (sp : Word) (n8 : Byte) :
    spaddCompute sp n8 = ⟨sp + n8.signExtend 16, decide (0xF < sp.toNat % 16 + n8.toNat % 16),
      decide (0xFF < sp.toNat % 256 + n8.toNat)⟩ := by
  simp only [spaddCompute, addSigned_eq]

theorem shiftCompute_eq (op : ShiftOp) (v : Byte) (c : Bool) : shiftCompute op v c = Claims.shiftResult op v c := by
  revert v c
  cases op <;> decide +kernel

theorem clearBit_getLsbD (v : Byte) (b : Fin 8) : ∀ k < 8, (clearBit v b.val).getLsbD k = (k != b.val && v.getLsbD k) := by
  intro k hk
  rcases Nat.lt_trichotomy k b.val with h | h | h
  · simp [clearBit, hk, h, Nat.ne_of_lt h]
  · simp [clearBit, h]
  · simp [clearBit, hk, Nat.lt_asymm h, (Nat.ne_of_lt h).symm, Nat.sub_ne_zero_of_lt h]

theorem setBit_getLsbD (v : Byte) (b : Fin 8) : ∀ k < 8, (setBit v b.val).getLsbD k = (k == b.val || v.getLsbD k) := by
  intro k hk
  rcases Nat.lt_trichotomy k b.val with h | h | h
  · simp [setBit, hk, h, Nat.ne_of_lt h]
  · simp [setBit, h]
  · simp [setBit, hk, Nat.lt_asymm h, (Nat.ne_of_lt h).symm, Nat.sub_ne_zero_of_lt h]

/-- The four flags read back from the byte they were packed into, whose low nibble is zero. -/
theorem packFlags_bits (z n h c : Bool) :
    (packFlags z n h c).getLsbD 7 = z ∧ (packFlags z n h c).getLsbD 6 = n ∧ (packFlags z n h c).getLsbD 5 = h ∧
      (packFlags z n h c).getLsbD 4 = c ∧ packFlags z n h c &&& 0x0F#8 = 0#8 := by
  revert z n h c
  decide

theorem cond_eq_holds (s : State) (cc : Cond) : s.cond cc = Claims.holds cc s.f := by cases cc <;> rfl

end Sys2Proof.Machine
end

