-- ==== Sys2Proof/Laws/Ppu.lean ====
section
/-! SUPPORT. What one tick of the PPU can do, part by part. -/

namespace Sys2Proof.Machine

/-- The dot counter and the mode transitions of a tick, case by case (65_ppu.md rules R452 to R456). -/
theorem advanceDot_cases (s : State) :
    (s.dot + 1 = 456 ∧ s.ly < 143 ∧ advanceDot s = { s with dot := 0, ly := s.ly + 1, mode := .oamSearch }) ∨
    (s.dot + 1 = 456 ∧ s.ly = 143 ∧ advanceDot s = enterVBlank { s with dot := 0 }) ∨
    (s.dot + 1 = 456 ∧ 143 < s.ly ∧ s.ly < 153 ∧ advanceDot s = { s with dot := 0, ly := s.ly + 1 }) ∨
    (s.dot + 1 = 456 ∧ 153 ≤ s.ly ∧ advanceDot s = { s with dot := 0, ly := 0, mode := .oamSearch }) ∨
    (s.dot = 79 ∧ s.mode = .oamSearch ∧
      advanceDot s = { s with dot := 80, mode := .pixelDrawing, lines := s.lines ++ [composite s s.ly] }) ∨
    (s.dot = 159 ∧ s.mode = .pixelDrawing ∧ advanceDot s = { s with dot := 160, mode := .hBlank }) ∨
    (s.dot + 1 ≠ 456 ∧ ¬ (s.mode = .oamSearch ∧ s.dot = 79) ∧ ¬ (s.mode = .pixelDrawing ∧ s.dot = 159) ∧
      advanceDot s = { s with dot := s.dot + 1 }) := by
  by_cases h : s.dot + 1 = 456
  · rcases Nat.lt_trichotomy s.ly 143 with h1 | h1 | h1
    · exact .inl ⟨h, h1, by simp [advanceDot, endOfLine, h, h1]⟩
    · exact .inr (.inl ⟨h, h1, by simp [advanceDot, endOfLine, h, h1]⟩)
    · by_cases h2 : s.ly < 153
      · exact .inr (.inr (.inl ⟨h, h1, h2, by
          simp [advanceDot, endOfLine, h, h2, show ¬ s.ly < 143 by omega, show s.ly ≠ 143 by omega]⟩))
      · exact .inr (.inr (.inr (.inl ⟨h, by omega, by
          simp [advanceDot, endOfLine, h, h2, show ¬ s.ly < 143 by omega, show s.ly ≠ 143 by omega]⟩)))
  · by_cases h1 : s.mode = .oamSearch ∧ s.dot = 79
    · exact .inr (.inr (.inr (.inr (.inl ⟨h1.2, h1.1, by simp [advanceDot, h1]⟩))))
    · by_cases h2 : s.mode = .pixelDrawing ∧ s.dot = 159
      · exact .inr (.inr (.inr (.inr (.inr (.inl ⟨h2.2, h2.1, by simp [advanceDot, h2]⟩)))))
      · refine .inr (.inr (.inr (.inr (.inr (.inr ⟨h, h1, h2, ?_⟩)))))
        have h1' : ¬ (s.mode = .oamSearch ∧ s.dot + 1 = 80) := by simpa using h1
        have h2' : ¬ (s.mode = .pixelDrawing ∧ s.dot + 1 = 160) := by simpa using h2
        simp only [advanceDot, h, h1', h2', if_false]

/-- What entering VBlank writes; a step's own registers and control state stand apart (rules R454, R458). -/
theorem enterVBlank_eq (s : State) :
    enterVBlank s =
      { s with
        ly := 144, mode := .vBlank, lines := []
        frameSlot :=
          if s.frameSlot = none then (if Config.consumerReady s.emitted then some s.lines else none) else s.frameSlot
        emitted := s.emitted + 1
        mem := busWriteStore s.cfg.bus s.mem addrIF (s.readByte addrIF ||| 0x01#8)
        device := busWriteDevice s.cfg.bus s.device addrIF (s.readByte addrIF ||| 0x01#8) } := rfl

/-- The transitions of a tick keep the STAT line and the parameters, which the check after them reads. -/
theorem advanceDot_keeps (s : State) : (advanceDot s).statLine = s.statLine ∧ (advanceDot s).cfg = s.cfg := by
  rcases advanceDot_cases s with h | h | h | h | h | h | h <;> first | rw [h.2.2.2] | rw [h.2.2]
  all_goals exact ⟨rfl, rfl⟩

/-- The mirror writes two bytes and nothing else (rule R457). -/
theorem mirrorRegisters_st (s : State) :
    (mirrorRegisters s).st =
      { s with mem := (mirrorRegisters s).st.mem, device := (mirrorRegisters s).st.device } := rfl

/-- The two bytes, LY first, whatever `BUS` is (rule R457). -/
theorem mirrorRegisters_st_eq (s : State) :
    (mirrorRegisters s).st = s.writeBytes [(addrLY, .ofNat 8 s.ly), (addrSTAT, (mirrorRegisters s).stat)] := rfl

/-- The STAT check requests an interrupt or not, and keeps its line; nothing else (rule R459). -/
theorem statInterruptCheck_eq (m : Mirrored) :
    statInterruptCheck m =
      if statCondition m.stat m.coinc m.st.mode = true ∧ m.st.statLine = false then
        { m.st.writeByte addrIF (m.st.readByte addrIF ||| 0x02#8) with statLine := true }
      else { m.st with statLine := statCondition m.stat m.coinc m.st.mode } := by
  cases h : statCondition m.stat m.coinc m.st.mode <;> cases h' : m.st.statLine <;>
    simp [statInterruptCheck, requestInterrupt, h, h']

/-- On the default `BUS` the STAT byte reads back as the mirror wrote it, and the compare as it was made. -/
theorem mirrorRegisters_read_back {s : State} (hb : s.cfg.bus = .flat) (hw : Memory.wf s.mem = true) :
    (mirrorRegisters s).st.readByte addrSTAT = (mirrorRegisters s).stat ∧
      (mirrorRegisters s).st.coincidence = (mirrorRegisters s).coinc := by
  refine ⟨State.readByte_writeByte_same (s := s.writeByte _ _) hb (State.writeByte_wf hw _ _) _ _, ?_⟩
  show (s.ly == (((s.writeByte _ _).writeByte _ _).readByte addrLYC).toNat) = _
  rw [State.readByte_writeByte_other (s := s.writeByte _ _) hb _ (by decide)]
  rfl

/-- A composited line depends on the bytes of memory and the parameters alone. -/
theorem composite_congr {s t : State} (hb : s.cfg = t.cfg) (hm : s.mem = t.mem) (hd : s.device = t.device) (ly : Nat) :
    composite s ly = composite t ly := by
  rw [show composite s ly = composite { t with cfg := s.cfg, mem := s.mem, device := s.device } ly from rfl, hb, hm, hd]

/-- Ticks one after another. -/
theorem ppuTicks_add (m n : Nat) (s : State) : ppuTicks (m + n) s = ppuTicks n (ppuTicks m s) := by
  induction m generalizing s with
  | zero => rw [Nat.zero_add]; rfl
  | succ m ih =>
    rw [show m + 1 + n = (m + n) + 1 by omega]
    exact ih (ppuTick s)

/-- What every tick keeps, any number of ticks keeps. -/
theorem ppuTicks_keeps {P : State → Prop} (h : ∀ s, P s → P (ppuTick s)) (n : Nat) {s : State} (hs : P s) :
    P (ppuTicks n s) := by
  induction n generalizing s with
  | zero => exact hs
  | succ n ih => exact ih (h s hs)

/-- The canonical form of memory through a tick. -/
theorem ppuTick_wf {s : State} (h : Memory.wf s.mem = true) : Memory.wf (ppuTick s).mem = true := by
  have ha : Memory.wf (advanceDot s).mem = true := by
    rcases advanceDot_cases s with h' | h' | h' | h' | h' | h' | h' <;> simp only [h'.2.2, h'.2, h]
    exact State.writeByte_wf (s := { s with mode := .vBlank }) h _ _
  have hm : Memory.wf (mirrorRegisters (advanceDot s)).st.mem = true :=
    State.writeByte_wf (State.writeByte_wf ha _ _) _ _
  rw [ppuTick, statInterruptCheck_eq]
  split
  · exact State.writeByte_wf hm _ _
  · exact hm

end Sys2Proof.Machine
end

