-- ==== Sys2Proof/Laws/Step.lean ====
section
/-! SUPPORT. Fetching, and all that a CPU step and a system step can do. -/

namespace Sys2Proof.Machine

/-! ## Encodings -/

theorem encoded_one {i : Instr} {a : Byte} (h1 : encode i = [a]) (h2 : ∀ rest, decode (a :: rest) = .ok (i, rest)) :
    Claims.Encoded i [a] := by
  refine ⟨h1, h2, fun s k hk hb => ?_⟩
  obtain rfl : k = 0 := by simpa using hk
  simp [State.fetch, hb, decode]

theorem encoded_two {i : Instr} {a b : Byte} (h1 : encode i = [a, b])
    (h2 : ∀ rest, decode (a :: b :: rest) = .ok (i, rest)) {e : DecodeError} (h3 : decode [a] = .error e) :
    Claims.Encoded i [a, b] := by
  refine ⟨h1, h2, fun s k hk hb => ?_⟩
  have hk : k < 2 := by simpa using hk
  obtain rfl | rfl : k = 0 ∨ k = 1 := by omega
  · simp [State.fetch, hb, decode]
  · simp [State.fetch, hb, h3]

theorem encoded_three {i : Instr} {a b c : Byte} (h1 : encode i = [a, b, c])
    (h2 : ∀ rest, decode (a :: b :: c :: rest) = .ok (i, rest)) {e e' : DecodeError} (h3 : decode [a] = .error e)
    (h4 : decode [a, b] = .error e') : Claims.Encoded i [a, b, c] := by
  refine ⟨h1, h2, fun s k hk hb => ?_⟩
  have hk : k < 3 := by simpa using hk
  obtain rfl | rfl | rfl : k = 0 ∨ k = 1 ∨ k = 2 := by omega
  · simp [State.fetch, hb, decode]
  · simp [State.fetch, hb, h3]
  · simp [State.fetch, hb, h4]

/-! ## The CPU step -/

/-- A plain instruction step whose effect keeps IME, `ei_armed` and `cycles` ends as `Claims.completed` says. -/
theorem plainStep_completed {len cost : Nat} {f : State → State} {s u : State}
    (hu : f { s with haltbug := false } = { u with haltbug := false }) (hi : u.ime = s.ime)
    (he : u.eiArmed = s.eiArmed) (hc : u.cycles = s.cycles) :
    plainStep len cost f s = .next (Claims.completed s u (s.pcNext len) cost) := plainStep_next s u hu hi he hc

/-- A state that does not take an idle step and is not frozen runs on as the awake state. -/
theorem State.awake_eq_self {s : State} (h : s.asleep = false) : s.awake = s := by
  obtain ⟨h1, h2⟩ : s.halted = false ∧ s.stopped = false := by simpa [State.asleep] using h
  cases s
  simp_all [State.awake]

/-- An awake machine, with no fault and no interrupt to dispatch, that can fetch runs what it fetches. -/
theorem State.stepKind_instr {s : State} {i : Instr} (hf : s.fault = none) (hs : s.asleep = false)
    (hi : (s.ime && s.pending != 0#8) = false) (h : s.fetch = .ok i) : s.stepKind = .instr i := by
  simp [State.stepKind, hf, hs, hi, h]

/-- See `State.stepKind_instr`. -/
theorem State.stepKind_badFetch {s : State} {k : FaultKind} (hf : s.fault = none) (hs : s.asleep = false)
    (hi : (s.ime && s.pending != 0#8) = false) (h : s.fetch = .error k) : s.stepKind = .badFetch k := by
  simp [State.stepKind, hf, hs, hi, h]

/-- All that a step which gives a next state has done: an idle step, or a dispatch, an instruction or a failed fetch
from the awake state, with everything put back if that raised. -/
theorem cpuStep_cases {s t : State} (h : cpuStep s = .next t) :
    s.fault = none ∧
    ((s.stepKind = .idle ∧ t = { s with cycles := s.cycles + 4 }) ∨
     (∃ u, t = restoreOnRaise s u ∧
       ((∃ k, s.stepKind = .dispatch k ∧ dispatchInterrupt s.awake = .next u) ∨
        (∃ i, s.stepKind = .instr i ∧ exec i s.awake = .next u) ∨
        (∃ k, s.stepKind = .badFetch k ∧ u = s.awake.raise k)))) := by
  have hf : s.fault = none := by
    cases hs : s.fault with
    | none => rfl
    | some r => simp [cpuStep, State.stepKind, hs] at h
  refine ⟨hf, ?_⟩
  cases hk : s.stepKind with
  | noStep r => simp [cpuStep, hk] at h
  | idle =>
    simp only [cpuStep, hk, restoreOnRaise, hf, Host.Outcome.next.injEq] at h
    exact .inl ⟨rfl, by rw [← h, hf]⟩
  | dispatch k =>
    simp only [cpuStep, hk] at h
    split at h <;> simp only [Host.Outcome.next.injEq, reduceCtorEq] at h
    exact .inr ⟨_, h.symm, .inl ⟨k, rfl, ‹_›⟩⟩
  | instr i =>
    simp only [cpuStep, hk] at h
    split at h <;> simp only [Host.Outcome.next.injEq, reduceCtorEq] at h
    exact .inr ⟨_, h.symm, .inr (.inl ⟨i, rfl, ‹_›⟩)⟩
  | badFetch k =>
    simp only [cpuStep, hk, raised, Host.Outcome.next.injEq] at h
    exact .inr ⟨_, h.symm, .inr (.inr ⟨k, rfl, rfl⟩)⟩

/-- All that a system step which gives a next state has done. -/
theorem step_cases {s t : State} (h : step s = .next t) : ∃ u, cpuStep s = .next u ∧ t = ticksAfter s u := by
  simp only [step, systemStep] at h
  split at h <;> simp only [Host.Outcome.next.injEq, reduceCtorEq] at h
  exact ⟨_, ‹_›, h.symm⟩

theorem step_of_cpuStep {s t : State} (h : cpuStep s = .next t) : step s = .next (ticksAfter s t) := by
  simp only [step, systemStep, h]

end Sys2Proof.Machine
end

