-- ==== Sys2Proof/Tests/Slice0.lean ====
section
/-! SUPPORT. The model's own tests. Each expected result is the spec's, from the rule its comment names; the last part
shows, for each statement of Certificates/Slice0/Obligations.lean that has hypotheses, a state that meets them. -/

namespace Sys2Proof.Tests

open Sys2Proof.Machine

/-- The result is a next state that passes a check. -/
def gives (r : Result) (p : State → Bool) : Bool :=
  match r with
  | .next t => p t
  | _ => false

/-- The reset state with another memory. -/
def withMem (m : Memory) : State := { State.reset with mem := m }

/-- The reset state meets each clause of the invariant. -/
theorem reset_meets_inv : Inv State.reset where
  memCanonical := rfl
  flagsLow := rfl
  haltbugOnlyIf := by decide
  oneSleep := rfl
  dotRange := by decide
  lyRange := by decide
  modeMatches := rfl
  linesCount := rfl
  linesFull := rfl
  slotFull := by decide

/-! ## Ill-formed terms -/

/-- The one check: the bare prefix row, whatever byte follows it (47_cpu_control.md rule R325). -/
theorem test_prefix_row_is_ill_formed : (Instr.prefixCB 0x37#8).wf = false := by decide

/-- An illegal opcode is an instruction that decodes (30_encoding.md rule R126). -/
theorem test_illegal_row_is_well_formed : Instr.illegalD3.wf = true := by decide


/-! ## Words written out from the encodings -/

/-- `01dddsss`, B = 0, C = 1 (40_load8.md rule R200). -/
theorem test_decode_ld_b_c : decode [0b01000001#8] = .ok (.ldBC, []) ∧ encode (.ldBC) = [0b01000001#8] := by decide

/-- `00ddd110 n8`, L = 5 (rule R201). -/
theorem test_decode_ld_l_d8 : decode [0b00101110#8, 0x5A#8] = .ok (.ldLD8 0x5A#8, []) ∧ encode (.ldLD8 0x5A#8) = [0b00101110#8, 0x5A#8] := by decide

/-- 0xE0 n8 (rule R212). -/
theorem test_decode_ldh_store : decode [0b11100000#8, 0x0F#8] = .ok (.ldhAtA8A 0x0F#8, []) ∧ encode (.ldhAtA8A 0x0F#8) = [0b11100000#8, 0x0F#8] := by decide

/-- `00pp0001`, DE = 1 (41_load16.md rule R220). -/
theorem test_decode_ld_de_d16 : decode [0b00010001#8, 0x34#8, 0x12#8] = .ok (.ldDED16 0x34#8 0x12#8, []) ∧ encode (.ldDED16 0x34#8 0x12#8) = [0b00010001#8, 0x34#8, 0x12#8] := by decide

/-- `11pp0101`, AF = 3 (rule R225). -/
theorem test_decode_push_af : decode [0b11110101#8] = .ok (.pushAF, []) ∧ encode (.pushAF) = [0b11110101#8] := by decide

/-- `10011110` (42_alu8.md rule R240). -/
theorem test_decode_sbc_a_hl : decode [0b10011110#8] = .ok (.sbcAAtHL, []) ∧ encode (.sbcAAtHL) = [0b10011110#8] := by decide

/-- `11101110 n8` (rule R247). -/
theorem test_decode_xor_d8 : decode [0b11101110#8, 0x0F#8] = .ok (.xorD8 0x0F#8, []) ∧ encode (.xorD8 0x0F#8) = [0b11101110#8, 0x0F#8] := by decide

/-- `00ddd101`, E = 3 (rule R256). -/
theorem test_decode_dec_e : decode [0b00011101#8] = .ok (.decE, []) ∧ encode (.decE) = [0b00011101#8] := by decide

/-- `00pp1001`, SP = 3 (43_alu16.md rule R263). -/
theorem test_decode_add_hl_sp : decode [0b00111001#8] = .ok (.addHLSP, []) ∧ encode (.addHLSP) = [0b00111001#8] := by decide

/-- `00011111` (44_rotate_shift.md rule R273). -/
theorem test_decode_rra : decode [0b00011111#8] = .ok (.rra, []) ∧ encode (.rra) = [0b00011111#8] := by decide

/-- 0xCB then `00110rrr`, A = 7 (rule R286). -/
theorem test_decode_swap_a : decode [0xCB#8, 0b00110111#8] = .ok (.swapA, []) ∧ encode (.swapA) = [0xCB#8, 0b00110111#8] := by decide

/-- 0xCB then `01bbbrrr`, b = 7, H = 4 (45_bit.md rule R290). -/
theorem test_decode_bit_7_h : decode [0xCB#8, 0b01111100#8] = .ok (.bit7H, []) ∧ encode (.bit7H) = [0xCB#8, 0b01111100#8] := by decide

/-- A second 0xCB is `SET 1,E`, `11bbbrrr` (47_cpu_control.md rule R325). -/
theorem test_decode_set_1_e : decode [0xCB#8, 0xCB#8] = .ok (.set1E, []) ∧ encode (.set1E) = [0xCB#8, 0xCB#8] := by decide

/-- `001cc000`, C = 3 (46_control.md rule R304). -/
theorem test_decode_jr_c : decode [0b00111000#8, 0xFE#8] = .ok (.jrCR8 0xFE#8, []) ∧ encode (.jrCR8 0xFE#8) = [0b00111000#8, 0xFE#8] := by decide

/-- `11ttt111`, t = 2 (rule R310). -/
theorem test_decode_rst_10 : decode [0b11010111#8] = .ok (.rst10, []) ∧ encode (.rst10) = [0b11010111#8] := by decide

/-- 0x76, not `LD (HL),(HL)` (47_cpu_control.md rule R321). -/
theorem test_decode_halt : decode [0b01110110#8] = .ok (.halt, []) ∧ encode (.halt) = [0b01110110#8] := by decide

/-- 0xD3 (rule R326). -/
theorem test_decode_illegal_d3 : decode [0b11010011#8] = .ok (.illegalD3, []) ∧ encode (.illegalD3) = [0b11010011#8] := by decide

/-- A byte that is not there is named (30_encoding.md rule R112). -/
theorem test_decode_truncated : decode [] = .error .noOpcodeByte ∧ decode [0xCB#8] = .error .noCBByte ∧ decode [0x01#8, 0x00#8] = .error .noImmediateByte := by decide

/-- Bits are numbered from the first byte: 0x21 0x34 0x12. -/
theorem test_table_word : decodeTableWord 24 0x123421 = some (.ldHLD16 0x34#8 0x12#8) := by decide


/-! ## One instruction at a time, from the examples of the rules -/

/-- Rule R200. -/
theorem test_ld_a_b : gives (exec .ldAB { State.reset with b := 0x12#8 }) (fun t => t.a == 0x12#8 && t.pc == 0x0101#16 && t.cycles == 4) = true := by decide

/-- Rule R202: the address is the old HL. -/
theorem test_ld_h_at_hl : gives (exec .ldHAtHL { State.reset with h := 0xC0#8, l := 0x00#8, mem := [(0xC000, 0x77#8)] }) (fun t => t.h == 0x77#8 && t.l == 0x00#8) = true := by decide

/-- Rule R203. -/
theorem test_ld_at_hl_l : gives (exec .ldAtHLL { State.reset with h := 0xC0#8, l := 0x10#8 }) (fun t => t.readByte 0xC010#16 == 0x10#8 && t.cycles == 8) = true := by decide

/-- Rule R211, LY = 0x90. -/
theorem test_ldh_reads_io_page : gives (exec (.ldhAAtA8 0x44#8) { State.reset with mem := [(0xFF44, 0x90#8)] }) (fun t => t.a == 0x90#8 && t.cycles == 12) = true := by decide

/-- Rule R216: HL = 0x0000 stores at 0x0000, then HL = 0xFFFF. -/
theorem test_ld_at_hl_dec_wraps : gives (exec .ldAtHLDecA { State.reset with h := 0x00#8, l := 0x00#8, a := 0x5A#8 }) (fun t => t.readByte 0x0000#16 == 0x5A#8 && t.hl == 0xFFFF#16) = true := by decide

/-- Rule R223: SP = 0x00FF, e8 = -1. -/
theorem test_ld_hl_sp_plus_negative : gives (exec (.ldHLSPR8 0xFF#8) { State.reset with sp := 0x00FF#16 }) (fun t => t.hl == 0x00FE#16 && t.f == 0x30#8 && t.sp == 0x00FF#16) = true := by decide

/-- Rule R221. -/
theorem test_ld_a16_sp : gives (exec (.ldAtA16SP 0x00#8 0xC1#8) { State.reset with sp := 0xFFF8#16 }) (fun t => t.readByte 0xC100#16 == 0xF8#8 && t.readByte 0xC101#16 == 0xFF#8) = true := by decide

/-- Rule R224. -/
theorem test_push_bc : gives (exec .pushBC { State.reset with b := 0x12#8, c := 0x34#8 }) (fun t => t.sp == 0xFFFC#16 && t.readByte 0xFFFC#16 == 0x34#8 && t.readByte 0xFFFD#16 == 0x12#8) = true := by decide

/-- Rule R224: SP = 0x0000 pushes to 0xFFFE and 0xFFFF. -/
theorem test_push_at_zero : gives (exec .pushAF { State.reset with sp := 0x0000#16, a := 0x12#8, f := 0xB0#8 }) (fun t => t.sp == 0xFFFE#16 && t.readByte 0xFFFE#16 == 0xB0#8 && t.readByte 0xFFFF#16 == 0x12#8) = true := by decide

/-- Rule R219: SP = 0x0001. -/
theorem test_push_faults : gives (exec .pushHL { State.reset with sp := 0x0001#16 }) (fun t => t.fault == some ⟨.addressOutOfRange, 0x0100#16⟩ && t.sp == 0x0001#16 && t.cycles == 0) = true := by decide

/-- Rule R227. -/
theorem test_pop_af_drops_low_nibble : gives (exec .popAF { State.reset with sp := 0xC000#16, mem := [(0xC000, 0xFF#8), (0xC001, 0x12#8)] }) (fun t => t.a == 0x12#8 && t.f == 0xF0#8 && t.sp == 0xC002#16) = true := by decide

/-- Rule R226. -/
theorem test_pop_de : gives (exec .popDE { State.reset with sp := 0xC000#16, mem := [(0xC000, 0x34#8), (0xC001, 0x12#8)] }) (fun t => t.de == 0x1234#16 && t.cycles == 12) = true := by decide

/-- Rule R230 with A = 0x3A, B = 0xC6. -/
theorem test_add_a_wraps : gives (exec .addAB { State.reset with a := 0x3A#8, b := 0xC6#8 }) (fun t => t.a == 0x00#8 && t.f == 0xB0#8) = true := by decide

/-- Rule R235: 0xE1 + 0x0F + 1. -/
theorem test_adc_uses_carry : gives (exec (.adcAD8 0x0F#8) { State.reset with a := 0xE1#8, f := 0x10#8 }) (fun t => t.a == 0xF1#8 && t.f == 0x20#8) = true := by decide

/-- Rule R238: 0x10 - 0x11. -/
theorem test_sub_borrows : gives (exec (.subD8 0x11#8) { State.reset with a := 0x10#8 }) (fun t => t.a == 0xFF#8 && t.f == 0x70#8) = true := by decide

/-- Rule R252. -/
theorem test_cp_at_hl : gives (exec .cpAtHL { State.reset with a := 0x3C#8, h := 0xC0#8, l := 0x00#8, mem := [(0xC000, 0x40#8)] }) (fun t => t.a == 0x3C#8 && t.f == 0x50#8) = true := by decide

/-- Rule R254: B = 0x0F, C = 1. -/
theorem test_inc_keeps_carry : gives (exec .incB { State.reset with b := 0x0F#8, f := 0x10#8 }) (fun t => t.b == 0x10#8 && t.f == 0x30#8) = true := by decide

/-- Rule R257. -/
theorem test_dec_at_hl : gives (exec .decAtHL { State.reset with h := 0xC0#8, l := 0x10#8, f := 0x00#8 }) (fun t => t.readByte 0xC010#16 == 0xFF#8 && t.f == 0x60#8) = true := by decide

/-- Rule R258: A = 0x9A, N = H = C = 0. -/
theorem test_daa_source_vector : gives (exec .daa { State.reset with a := 0x9A#8, f := 0x00#8 }) (fun t => t.a == 0x00#8 && t.f == 0x90#8) = true := by decide

/-- Rule R258: N = H = C = 1, A = 0x00. -/
theorem test_daa_after_subtraction : gives (exec .daa { State.reset with a := 0x00#8, f := 0x70#8 }) (fun t => t.a == 0x9A#8 && t.f == 0x50#8) = true := by decide

/-- Rule R259. -/
theorem test_cpl : gives (exec .cpl { State.reset with a := 0x35#8, f := 0x90#8 }) (fun t => t.a == 0xCA#8 && t.f == 0xF0#8) = true := by decide

/-- Rule R261: F = 0x70. -/
theorem test_ccf_clears_h : gives (exec .ccf { State.reset with f := 0x70#8 }) (fun t => t.f == 0x00#8) = true := by decide

/-- Rule R263: Z kept. -/
theorem test_add_hl_sp : gives (exec .addHLSP { State.reset with h := 0x12#8, l := 0x34#8, sp := 0xF000#16, f := 0x00#8 }) (fun t => t.hl == 0x0234#16 && t.f == 0x10#8) = true := by decide

/-- Rule R265. -/
theorem test_dec_bc_wraps : gives (exec .decBC { State.reset with b := 0x00#8, c := 0x00#8, f := 0xF0#8 }) (fun t => t.bc == 0xFFFF#16 && t.f == 0xF0#8) = true := by decide

/-- Rule R266: SP = 0x0001, e8 = -2. -/
theorem test_add_sp_negative : gives (exec (.addSPR8 0xFE#8) { State.reset with sp := 0x0001#16 }) (fun t => t.sp == 0xFFFF#16 && t.f == 0x00#8 && t.cycles == 16) = true := by decide

/-- Rule R270: A = 0x00 leaves Z = 0. -/
theorem test_rlca_clears_z : gives (exec .rlca { State.reset with a := 0x00#8 }) (fun t => t.a == 0x00#8 && t.f == 0x00#8) = true := by decide

/-- Rule R280. -/
theorem test_rr_b_through_carry : gives (exec .rrB { State.reset with b := 0x01#8, f := 0x10#8 }) (fun t => t.b == 0x80#8 && t.f == 0x10#8) = true := by decide

/-- Rule R284. -/
theorem test_sra_b : gives (exec .sraB { State.reset with b := 0x81#8 }) (fun t => t.b == 0xC0#8 && t.f == 0x10#8) = true := by decide

/-- Rule R287. -/
theorem test_swap_at_hl : gives (exec .swapAtHL { State.reset with h := 0xC0#8, l := 0x00#8, mem := [(0xC000, 0xF1#8)] }) (fun t => t.readByte 0xC000#16 == 0x1F#8 && t.f == 0x00#8 && t.cycles == 16) = true := by decide

/-- Rule R290. -/
theorem test_bit_7_h : gives (exec .bit7H { State.reset with h := 0x80#8, f := 0x10#8 }) (fun t => t.f == 0x30#8) = true := by decide

/-- Rule R291: 12 cycles, memory read only. -/
theorem test_bit_at_hl_cost : gives (exec .bit0AtHL { State.reset with h := 0xC0#8, l := 0x00#8, mem := [(0xC000, 0x01#8)], f := 0x00#8 }) (fun t => t.f == 0x20#8 && t.cycles == 12 && t.mem == [(0xC000, 0x01#8)]) = true := by decide

/-- Rule R293. -/
theorem test_res_7_at_hl : gives (exec .res7AtHL { State.reset with h := 0xC0#8, l := 0x00#8, mem := [(0xC000, 0xFF#8)] }) (fun t => t.readByte 0xC000#16 == 0x7F#8) = true := by decide

/-- Rule R294. -/
theorem test_set_0_a : gives (exec .set0A { State.reset with a := 0x00#8 }) (fun t => t.a == 0x01#8) = true := by decide

/-- Rule R301: Z = 1. -/
theorem test_jp_nz_not_taken : gives (exec (.jpNZA16 0x00#8 0x20#8) { State.reset with f := 0x80#8 }) (fun t => t.pc == 0x0103#16 && t.cycles == 12) = true := by decide

/-- Rule R303: `18 FE` at 0x0200. -/
theorem test_jr_to_itself : gives (exec (.jrR8 0xFE#8) { State.reset with pc := 0x0200#16 }) (fun t => t.pc == 0x0200#16 && t.cycles == 12) = true := by decide

/-- Rule R305. -/
theorem test_call_pushes_next : gives (exec (.callA16 0x34#8 0x12#8) { State.reset with pc := 0x8000#16 }) (fun t => t.pc == 0x1234#16 && t.sp == 0xFFFC#16 && t.readByte 0xFFFC#16 == 0x03#8 && t.readByte 0xFFFD#16 == 0x80#8) = true := by decide

/-- Rule R306: C = 0, even with SP = 0x0001. -/
theorem test_call_not_taken_keeps_sp : gives (exec (.callCA16 0x34#8 0x12#8) { State.reset with f := 0x00#8, sp := 0x0001#16 }) (fun t => t.pc == 0x0103#16 && t.sp == 0x0001#16 && t.cycles == 12 && t.fault == none) = true := by decide

/-- Rule R308: 20 cycles. -/
theorem test_ret_nz_taken : gives (exec .retNZ { State.reset with f := 0x00#8, sp := 0xC000#16, mem := [(0xC000, 0x03#8), (0xC001, 0x80#8)] }) (fun t => t.pc == 0x8003#16 && t.cycles == 20) = true := by decide

/-- Rule R309. -/
theorem test_reti_sets_ime : gives (exec .reti { State.reset with sp := 0xC000#16, mem := [(0xC000, 0x03#8), (0xC001, 0x80#8)] }) (fun t => t.pc == 0x8003#16 && t.ime) = true := by decide

/-- Rule R310: `RST 0x10` at 0xF00C with SP = 0xCFFF. -/
theorem test_rst_source_vector : gives (exec .rst10 { State.reset with pc := 0xF00C#16, sp := 0xCFFF#16 }) (fun t => t.pc == 0x0010#16 && t.sp == 0xCFFD#16 && t.readByte 0xCFFD#16 == 0x0D#8 && t.readByte 0xCFFE#16 == 0xF0#8) = true := by decide

/-- Rule R310: n = 0x01 fails with InvalidOperand. -/
theorem test_rst_illegal_target : gives (rstStep 0x01 State.reset) (fun t => t.fault == some ⟨.invalidOperand, 0x0100#16⟩) = true := by decide

/-- Rule R321: HALT_BUG, IME = 0 and an interrupt pending. -/
theorem test_halt_bug : gives (exec .halt { State.reset with mem := [(0xFFFF, 0x01#8)], cfg := { Params.standard with haltBug := true } }) (fun t => t.haltbug && !t.halted) = true := by decide

/-- Rule R321: the next step does not pass its byte. -/
theorem test_halt_bug_fetches_twice : gives (exec .incB { State.reset with haltbug := true }) (fun t => t.pc == 0x0100#16 && !t.haltbug) = true := by decide

/-- Rule R323. -/
theorem test_di_cancels_ei : gives (exec .di { State.reset with eiArmed := true }) (fun t => !t.ime && !t.eiArmed) = true := by decide

/-- Rule R324: IME is set at the end of the step after `EI`. -/
theorem test_ei_then_nop : gives (exec .nop { State.reset with eiArmed := true }) (fun t => t.ime && !t.eiArmed) = true := by decide

/-- Rule R326. -/
theorem test_illegal_records : gives (exec .illegalD3 { State.reset with a := 0x01#8 }) (fun t => t.fault == some ⟨.invalidOperand, 0x0100#16⟩ && t.pc == 0x0100#16 && t.cycles == 0) = true := by decide


/-! ## The step -/

/-- `LD C,0x5A` placed at PC is what the next step runs. -/
theorem test_withFetchWord_runs : gives (step (State.reset.withFetchWord 16 0x5A0E)) (fun t => t.c == 0x5A#8 && t.pc == 0x0102#16 && t.cycles == 8 && t.dot == 8) = true := by decide +kernel

/-- 60_exceptions.md rule R401. -/
theorem test_idle : gives (step { State.reset with halted := true }) (fun t => t.halted && t.cycles == 4 && t.pc == 0x0100#16 && t.dot == 4) = true := by decide +kernel

/-- Rules R422, R430: VBlank before STAT, `HALT` left. -/
theorem test_wake_and_dispatch : gives (step { State.reset with halted := true, ime := true, mem := [(0xFF0F, 0x03#8), (0xFFFF, 0x1F#8)] }) (fun t => !t.halted && !t.ime && t.pc == 0x0040#16 && t.readByte 0xFF0F#16 == 0x02#8 && t.readByte 0xFFFC#16 == 0x00#8 && t.readByte 0xFFFD#16 == 0x01#8 && t.cycles == 20) = true := by decide +kernel

/-- Rule R422: the IF clear is undone with the rest. -/
theorem test_dispatch_fault_undone : gives (step { State.reset with ime := true, sp := 0x0001#16, mem := [(0xFFFF, 0x01#8)] }) (fun t => t.readByte 0xFF0F#16 == 0xE1#8 && t.ime && t.fault == some ⟨.addressOutOfRange, 0x0100#16⟩) = true := by decide +kernel

/-- 30_encoding.md rule R112: a 2-byte opcode at 0xFFFF. -/
theorem test_fetch_past_end : gives (step { State.reset with pc := 0xFFFF#16, mem := [(0xFFFF, 0x06#8)] }) (fun t => t.fault == some ⟨.addressOutOfRange, 0xFFFF#16⟩ && t.cycles == 0) = true := by decide +kernel

/-- Rule R410: NoStep after a fault. -/
theorem test_frozen : (match step { State.reset with fault := some ⟨.invalidOperand, 0xD300#16⟩ } with | .fault r => r == .noStep .invalidOperand 0xD300#16 | _ => false) = true := by decide


/-! ## The device behind BUS -/

/-- 20_memory.md rule R81: on another `BUS` a store is its byte write function, and the flat store is left alone. -/
theorem test_device_write_is_the_bus : gives (exec .ldAtHLA { State.reset with device := [7], h := 0x20#8, l := 0x00#8, cfg := { Params.standard with bus := .device 3 } })
    (fun t => t.mem == []) = true := by decide

/-- Rule R88: a push writes the byte at SP + 1, then the byte at SP. -/
theorem test_device_push_order : ∀ s : State, s.cfg.bus = .device 0 → s.cfg.wordOrder = .littleEndian → s.sp = 0xC000#16 →
    (Claims.pushed s 0x1234#16).device =
      Config.busWrite 0 (Config.busWrite 0 s.device 0xBFFF#16 0x12#8) 0xBFFE#16 0x34#8 := by
  intro s hb hw hs
  simp only [Claims.pushed, State.writeByte, hb, hw, hs]
  rfl


/-! ## The PPU -/

/-- 65_ppu.md rule R452, its second vector, with rule R458. -/
theorem test_tick_enters_vblank : let t := ppuTick { State.reset with dot := 455, ly := 143, mode := .hBlank, mem := [(0xFF0F, 0x00#8)] }
    t.ly = 144 ∧ t.mode = .vBlank ∧ t.readByte 0xFF0F#16 = 0x01#8 ∧ t.readByte 0xFF41#16 = 0x81#8 := by decide +kernel

/-- Rule R452, its third vector. -/
theorem test_tick_new_frame : let t := ppuTick { State.reset with dot := 455, ly := 153, mode := .vBlank }
    t.ly = 0 ∧ t.dot = 0 ∧ t.mode = .oamSearch := by decide +kernel

/-- Rule R459: LYC = LY selected. -/
theorem test_stat_rising_edge : let t := ppuTick { State.reset with mem := [(0xFF0F, 0x00#8), (0xFF41, 0x40#8)] }
    t.statLine = true ∧ t.readByte 0xFF0F#16 = 0x02#8 := by decide +kernel

/-- Rule R459: the byte the mirror wrote decides, whatever `BUS` reads back (here 0x00). -/
theorem test_stat_check_uses_written_byte : let m : Mirrored := ⟨{ State.reset with mem := [(0xFF0F, 0x00#8), (0xFF41, 0x00#8)] }, 0x40#8, true⟩
    (statInterruptCheck m).statLine = true ∧ (statInterruptCheck m).readByte 0xFF0F#16 = 0x02#8 := by decide +kernel

/-- Rule R464: lo = 0x55, hi = 0xAA decode to 2,1,2,1,2,1,2,1. -/
theorem test_tile_row : (List.range 8).map (colourIndex 0x55#8 0xAA#8) = [2, 1, 2, 1, 2, 1, 2, 1] := by decide

/-- Rule R473, its first example. -/
theorem test_background_row : (List.range 14).map (columnShade (withMem [(0x8010, 0x55#8), (0x8011, 0xAA#8), (0x9800, 0x01#8), (0xFF47, 0xE4#8)]) 0 []) =
    [2, 1, 2, 1, 2, 1, 2, 1, 0, 0, 0, 0, 0, 0] := by decide +kernel

/-- Rule R473, its third example. -/
theorem test_sprite_row : let s := withMem [(0x8010, 0x55#8), (0x8011, 0xAA#8), (0x8020, 0xFF#8), (0x8021, 0xFF#8), (0x9800, 0x01#8), (0xFE00, 0x10#8),
      (0xFE01, 0x0C#8), (0xFE02, 0x02#8), (0xFF40, 0x93#8), (0xFF47, 0xE4#8), (0xFF48, 0xE4#8)]
    (List.range 14).map (columnShade s 0 (spriteList s 0)) = [2, 1, 2, 1, 3, 3, 3, 3, 3, 3, 3, 3, 0, 0] := by decide +kernel

/-- Rule R467: 8x16, both flips, tile number 3 read as the pair 2, 3: line 0 shows row 7 of tile 3, mirrored. -/
theorem test_sprite_flips_and_pairs : let s := withMem [(0x803E, 0x80#8), (0x803F, 0x80#8), (0xFF40, 0x97#8)]
    let sp : Sprite := ⟨16, 8, 0x03#8, 0x60#8⟩
    sp.index s 0 7 = 3 ∧ sp.index s 0 0 = 0 ∧ Claims.spriteIndex s 0 7 sp = 3 := by decide +kernel


/-! ## Witnesses: states and operands that meet the hypotheses of the statements -/

/-- An instruction with two immediate bytes at their extremes. -/
theorem witness_DecodeInvertsEncode : (Instr.ldHLD16 0xFF#8 0x00#8).wf = true := by decide

/-- Bytes that decode, with one left over; LengthFromFirstByte's last clause has the same hypothesis. -/
theorem witness_EncodeInvertsDecode : decode [0x06#8, 0xFF#8, 0x00#8] = .ok (.ldBD8 0xFF#8, [0x00#8]) := by decide

/-- A 2-byte opcode at 0xFFFF and 3-byte ones at 0xFFFE and 0xFFFF, awake; one byte lower they fit. -/
theorem witness_FetchPastEndFaults : 
    (let s := { State.reset with pc := 0xFFFF#16, mem := [(0xFFFF, 0x06#8)] };
      (0xFFFF < s.pc.toNat + (opcodeLength (s.readByte s.pc) - 1)) ∧ s.fault = none ∧ s.halted = false ∧
        s.stopped = false ∧ s.ime = false) ∧
    (let s := { State.reset with pc := 0xFFFE#16, mem := [(0xFFFE, 0x01#8)] };
      0xFFFF < s.pc.toNat + (opcodeLength (s.readByte s.pc) - 1)) ∧
    (let s := { State.reset with pc := 0xFFFD#16, mem := [(0xFFFD, 0x01#8)] };
      ¬ 0xFFFF < s.pc.toNat + (opcodeLength (s.readByte s.pc) - 1)) := by decide +kernel

/-- The reset state, where memory reads 0x00: a `NOP` that completes; an illegal opcode raises there. -/
theorem witness_StepRunsDecoded : 
    State.reset.fault = none ∧ State.reset.halted = false ∧ State.reset.stopped = false ∧ State.reset.ime = false ∧
    decode (State.reset.bytesAt State.reset.pc) = .ok (.nop, [0x00#8, 0x00#8]) ∧
    gives (exec .nop State.reset) (fun t => t.fault == none) = true ∧
    gives (exec .illegalFD State.reset) (fun t => t.fault != none) = true := by decide +kernel

/-- Halted, then stopped, with VBlank enabled and requested; the step completes, or faults on an illegal opcode. -/
theorem witness_WakeUp : 
    (let s := { State.reset with halted := true, mem := [(0xFFFF, 0x01#8)] };
      s.halted = true ∧ s.readByte 0xFFFF#16 &&& s.readByte 0xFF0F#16 &&& 0x1F#8 ≠ 0#8 ∧
        gives (step { s with halted := false, stopped := false }) (fun t => t.fault == none) = true) ∧
    (let s := { State.reset with stopped := true, mem := [(0x0100, 0xD3#8), (0xFFFF, 0x01#8)] };
      s.stopped = true ∧ s.cfg.stopWake = .anyEnabledInterrupt ∧
        s.readByte 0xFFFF#16 &&& s.readByte 0xFF0F#16 &&& 0x1F#8 ≠ 0#8 ∧
        gives (step { s with halted := false, stopped := false }) (fun t => t.fault != none) = true) := by decide +kernel

/-- Halted with nothing pending; stopped under Never with an interrupt pending. -/
theorem witness_IdleStep : 
    (let s := { State.reset with halted := true };
      s.fault = none ∧ s.readByte 0xFFFF#16 &&& s.readByte 0xFF0F#16 &&& 0x1F#8 = 0#8) ∧
    (let s := { State.reset with stopped := true, mem := [(0xFFFF, 0x01#8)], cfg := { Params.standard with stopWake := .never } };
      s.fault = none ∧ s.stopped = true ∧ s.cfg.stopWake = .never ∧
        s.readByte 0xFFFF#16 &&& s.readByte 0xFF0F#16 &&& 0x1F#8 ≠ 0#8) := by decide +kernel

/-- A step that faults from an unfaulted state. -/
theorem witness_FaultFreezes : 
    (let s := { State.reset with mem := [(0x0100, 0xED#8)] };
      s.fault = none ∧ gives (step s) (fun t => t.fault == some ⟨.invalidOperand, 0x0100#16⟩) = true) := by decide +kernel

/-- Each row of the table of causes at a boundary value, and neighbours that do not fault. -/
theorem witness_FaultCauses : 
    Claims.faultCause { State.reset with pc := 0xFFFF#16, mem := [(0xFFFF, 0x10#8)] } = some .addressOutOfRange ∧
    Claims.faultCause { State.reset with pc := 0xFFFE#16, mem := [(0xFFFE, 0xC3#8)] } = some .addressOutOfRange ∧
    Claims.faultCause { State.reset with pc := 0xFFFD#16, mem := [(0xFFFD, 0xC3#8)] } = none ∧
    Claims.faultCause { State.reset with mem := [(0x0100, 0xFC#8)] } = some .invalidOperand ∧
    Claims.faultCause { State.reset with mem := [(0x0100, 0xFF#8)], sp := 0x0001#16 } = some .addressOutOfRange ∧
    Claims.faultCause { State.reset with mem := [(0x0100, 0xC4#8)], sp := 0x0001#16, f := 0x80#8 } = none ∧
    Claims.faultCause { State.reset with mem := [(0x0100, 0xC4#8)], sp := 0x0001#16, f := 0x00#8 } = some .addressOutOfRange ∧
    Claims.faultCause { State.reset with mem := [(0x0100, 0xC9#8)], sp := 0xFFFF#16 } = some .addressOutOfRange ∧
    Claims.faultCause { State.reset with mem := [(0x0100, 0xD8#8)], sp := 0xFFFF#16, f := 0x00#8 } = none ∧
    Claims.faultCause { State.reset with mem := [(0x0100, 0x08#8), (0x0101, 0xFF#8), (0x0102, 0xFF#8)] } =
      some .addressOutOfRange ∧
    Claims.faultCause { State.reset with mem := [(0x0100, 0x08#8), (0x0101, 0xFE#8), (0x0102, 0xFF#8)] } = none ∧
    Claims.faultCause { State.reset with ime := true, sp := 0x0001#16, mem := [(0xFFFF, 0x01#8)] } =
      some .addressOutOfRange ∧
    ¬ ∃ k : Fin 8, 0x39 = 8 * k.val := by decide +kernel

/-- k = 0 with all pending, k = 4 alone, and SP = 0x0001. -/
theorem witness_DispatchEntersHandler : 
    (let s := { State.reset with ime := true, mem := [(0xFF0F, 0x1F#8), (0xFFFF, 0x1F#8)] };
      s.fault = none ∧ s.cfg.stopWake = .anyEnabledInterrupt ∧ (s.readByte 0xFFFF#16).getLsbD 0 = true ∧
        (s.readByte 0xFF0F#16).getLsbD 0 = true ∧ s.sp ≠ 0x0001#16) ∧
    (let s := { State.reset with ime := true, sp := 0x0001#16, mem := [(0xFF0F, 0x1F#8), (0xFFFF, 0xF0#8)] };
      s.fault = none ∧ (s.readByte 0xFFFF#16).getLsbD 4 = true ∧ (s.readByte 0xFF0F#16).getLsbD 4 = true ∧
        (∀ j < 4, ((s.readByte 0xFFFF#16).getLsbD j && (s.readByte 0xFF0F#16).getLsbD j) = false) ∧
        s.sp = 0x0001#16) := by decide +kernel

/-- ControlFlagsChange, ProgramCounterAdvances, FlagsFollowDescriptor, RegistersFrame and MemoryFrame: well-formed instructions that run without a fault, one that transfers only when taken. -/
theorem witness_InstructionsThatComplete : 
    Instr.di.wf = true ∧ gives (exec .di State.reset) (fun t => t.fault == none) = true ∧
    gives (exec .addAB State.reset) (fun t => t.fault == none) = true ∧
    (Claims.transfers .addAB && Claims.taken .addAB State.reset.f) = false ∧
    (Claims.transfers (.jpNZA16 0x00#8 0x20#8) && Claims.taken (.jpNZA16 0x00#8 0x20#8) 0x80#8) = false ∧
    State.reset.f &&& 0x0F#8 = 0#8 ∧ Instr.nop.spec.flags = flagsKKKK ∧
    R7.b ∉ Claims.writtenRegs .addAB ∧ Claims.writesSP .addAB State.reset.f = false ∧
    Claims.stores .addAB State.reset = [] ∧ State.reset.cfg.bus = .flat ∧
    0xC000#16 ∉ Claims.stores .pushBC State.reset := by decide +kernel

/-- A faulting, an idle, a dispatch and an instruction step. -/
theorem witness_CyclesFollowTable : 
    gives (cpuStep { State.reset with mem := [(0x0100, 0xED#8)] }) (fun t => t.fault.isSome) = true ∧
    ({ State.reset with halted := true } : State).stepKind = .idle ∧
    ({ State.reset with ime := true, mem := [(0xFFFF, 0x01#8)] } : State).stepKind = .dispatch 0 ∧
    State.reset.stepKind = .instr .nop ∧ gives (cpuStep State.reset) (fun t => t.fault == none) = true := by decide +kernel

/-- StoreSP, PushStoresPair, PopLoadsPair, PushThenPop, WordAccess, CallsAndRestarts and Returns: both sides of each bound, on canonical memory. -/
theorem witness_StackOperands : 
    State.reset.imm16 0xFE#8 0xFF#8 ≠ 0xFFFF#16 ∧ State.reset.imm16 0xFF#8 0xFF#8 = 0xFFFF#16 ∧
    Memory.wf State.reset.mem = true ∧ State.reset.cfg.bus = .flat ∧ State.reset.sp ≠ 0x0001#16 ∧ State.reset.sp ≠ 0xFFFF#16 ∧
    State.reset.cfg.wordOrder = .littleEndian ∧ Claims.holds .z State.reset.f = true ∧
    Claims.holds .nz State.reset.f = false ∧ (¬ ∃ k : Fin 8, 0x01 = 8 * k.val) := by decide +kernel

/-- Both operands at their greatest value, A holding the first. -/
theorem witness_DaaMakesDecimal : 
    99 < 100 ∧ ({ State.reset with a := 0x99#8 } : State).a = Claims.bcd 99 := by decide

/-- The first and the last of the eleven. -/
theorem witness_PrefixAndIllegalRows : 
    Instr.illegalD3 ∈ Row.illegals ∧ Instr.illegalFD ∈ Row.illegals ∧ Claims.illegalOpcodes.contains (0xFD#8).toNat = true := by decide

/-- Canonical memory that lists a byte PostBoot overwrites and one it does not. -/
theorem witness_ResetProfiles : 
    (withMem [(0xC000, 0x01#8), (0xFF40, 0x00#8)]).cfg.bus = .flat ∧
    Memory.wf (withMem [(0xC000, 0x01#8), (0xFF40, 0x00#8)]).mem = true ∧
    0xC000#16 ∉ Claims.bootBytes.map Prod.fst ∧ 0xFF40#16 ∈ Claims.bootBytes.map Prod.fst := by decide

/-- TickMovesOn and Lockstep: the corners of the grid, and a step that completes. -/
theorem witness_OnGrid : 
    (State.reset.dot < 456 ∧ State.reset.ly < 154 ∧ State.reset.mode = modeAt State.reset.ly State.reset.dot) ∧
    modeAt 143 79 = .oamSearch ∧ modeAt 143 80 = .pixelDrawing ∧ modeAt 143 160 = .hBlank ∧ modeAt 143 455 = .hBlank ∧
    modeAt 144 0 = .vBlank ∧
    modeAt 153 455 = .vBlank ∧ gives (step State.reset) (fun t => t.fault == none) = true := by decide +kernel

/-- A state that meets the invariant and takes a step. -/
theorem witness_StepKeepsInvariant : 
    Inv State.reset ∧ gives (step State.reset) (fun _ => true) = true := ⟨reset_meets_inv, by decide +kernel⟩

/-- TickMirrorsRegisters, VBlankEntry, RequestBits and TickFrame: the default `BUS`, canonical memory at the end of line 143, with an empty and an occupied slot. -/
theorem witness_TickHypotheses : 
    Memory.wf State.reset.mem = true ∧ State.reset.cfg.bus = .flat ∧
    (let s := { State.reset with ly := 143, dot := 455 };
      s.ly = 143 ∧ s.dot = 455 ∧ s.frameSlot = none) ∧
    ({ State.reset with ly := 143, dot := 455, frameSlot := some [] } : State).frameSlot = some [] := by decide

/-- A step that gives a next state. -/
theorem witness_HostSideUnseen : gives (step State.reset) (fun _ => true) = true := by decide +kernel

/-- LCDC with the LCD off, and on with background and sprites off. -/
theorem witness_BlankLines : 
    (({ State.reset with mem := [(0xFF40, 0x11#8)] } : State).readByte 0xFF40#16).getLsbD 7 = false ∧
    (let l := ({ State.reset with mem := [(0xFF40, 0x80#8)] } : State).readByte 0xFF40#16;
      l.getLsbD 7 = true ∧ l.getLsbD 0 = false ∧ l.getLsbD 1 = false) := by decide

/-- The reset LCDC 0x91, and 0xF1 with the window reached at its first column, 4, and not at column 3. -/
theorem witness_BackgroundAndWindow : 
    (let l := State.reset.readByte 0xFF40#16;
      l.getLsbD 7 = true ∧ l.getLsbD 0 = true ∧ l.getLsbD 1 = false ∧ l.getLsbD 5 = false) ∧
    (let s := { State.reset with mem := [(0xFF40, 0xF1#8), (0xFF4B, 0x0B#8)] };
      (s.readByte 0xFF40#16).getLsbD 5 = true ∧ (s.readByte 0xFF4A#16).toNat ≤ 0 ∧
        ((s.readByte 0xFF4B#16).toNat : Int) - s.cfg.wxOffset.val ≤ 4 ∧
        ¬ ((s.readByte 0xFF4B#16).toNat : Int) - s.cfg.wxOffset.val ≤ 3) := by decide +kernel

/-- A sprite whose first and last rows are lines 0 and 7, with the entry kept. -/
theorem witness_SpriteSelection : 
    let s := withMem [(0xFE00, 0x10#8), (0xFE01, 0x0C#8)]
    ((oamEntry s 0).y : Int) - 16 ≤ 0 ∧ (7 : Int) < (oamEntry s 0).y - 16 + 8 ∧ (spriteList s 7).length = 1 ∧
      (spriteList s 8).length = 0 ∧ (oamEntry s 0).covers 4 = true ∧ (oamEntry s 0).covers 11 = true ∧
      (oamEntry s 0).covers 3 = false ∧ (oamEntry s 0).covers 12 = false := by decide +kernel

/-- Sprites on with a sprite shown, none shown, and sprites off. -/
theorem witness_SpritePriority : 
    let s := withMem [(0x8010, 0x55#8), (0x8011, 0xAA#8), (0x8020, 0xFF#8), (0x8021, 0xFF#8), (0x9800, 0x01#8), (0xFE00, 0x10#8),
      (0xFE01, 0x0C#8), (0xFE02, 0x02#8), (0xFF40, 0x93#8), (0xFF47, 0xE4#8), (0xFF48, 0xE4#8)]
    (s.readByte 0xFF40#16).getLsbD 1 = true ∧ (s.readByte 0xFF40#16).getLsbD 7 = true ∧
      spriteAt s 0 4 (spriteList s 0) = some ⟨16, 12, 0x02#8, 0x00#8⟩ ∧ spriteAt s 0 3 (spriteList s 0) = none ∧
      (State.reset.readByte 0xFF40#16).getLsbD 1 = false := by decide +kernel

end Sys2Proof.Tests
end

/-! PROOFS. One lemma for each family of rows says its length, its flag column and its step; one for each shape of rule
says what it leaves of PC and F. From them the frames of O15 (PC) and O16 (flags), for every instruction at once. -/

namespace Sys2Proof.Machine

/-! ## The rows -/

/-- The row has this encoded length, this flag column and this meaning (30_encoding.md rules R110, R122, R123). -/
def HasRow (i : Instr) (len : Nat) (fl : FlagDescriptor) (step : State → Result) : Prop :=
  (encode i).length = len ∧ i.spec.flags = fl ∧ ∀ s, exec i s = step s

/-- The flag column of an ALU row (42_alu8.md rules R230 to R253). -/
def aluFlags : AluOp → FlagDescriptor
  | .add | .adc => flagsZ0HC
  | .sub | .sbc | .cp => flagsZ1HC
  | .and => flagsZ010
  | .xor | .or => flagsZ000

/-- The flag column of a CB rotate or shift row (44_rotate_shift.md rules R274 to R289). -/
def shiftFlags : ShiftOp → FlagDescriptor
  | .swap => flagsZ000
  | _ => flagsZ00C

/-- The flag column of a `POP` row: `POP AF` loads F (41_load16.md rules R226, R227). -/
def popFlags : QQ → FlagDescriptor
  | .af => flagsZNHC
  | _ => flagsKKKK

/-! Families of rows; a `LD` row with both operands the byte at HL would be `HALT` (rule R124). -/

theorem hasRow_ld (d r : Operand8) (h : d ≠ .atHL ∨ r ≠ .atHL) :
    HasRow (Row.ld d r) 1 flagsKKKK (ldStep d r (ldCost d r)) := by
  refine and_assoc.mp ⟨?_, fun s => exec_ld d r s h⟩
  rcases d with q | _ <;> rcases r with r | _
  · cases q <;> cases r <;> exact ⟨rfl, rfl⟩
  · cases q <;> exact ⟨rfl, rfl⟩
  · cases r <;> exact ⟨rfl, rfl⟩
  · exact ⟨rfl, rfl⟩

theorem hasRow_ldImm (o : Operand8) (n8 : Byte) :
    HasRow (Row.ldImm o n8) 2 flagsKKKK (ldImmStep o n8 (withHL o 8 12)) := by
  refine and_assoc.mp ⟨?_, exec_ldImm o n8⟩
  rcases o with q | _
  · cases q <;> exact ⟨rfl, rfl⟩
  · exact ⟨rfl, rfl⟩

theorem hasRow_alu (op : AluOp) (o : Operand8) :
    HasRow (Row.alu op o) 1 (aluFlags op) (aluStep op 1 (withHL o 4 8) fun s => s.operand o) := by
  refine and_assoc.mp ⟨?_, exec_alu op o⟩
  rcases o with q | _
  · cases op <;> cases q <;> exact ⟨rfl, rfl⟩
  · cases op <;> exact ⟨rfl, rfl⟩

theorem hasRow_aluImm (op : AluOp) (n8 : Byte) :
    HasRow (Row.aluImm op n8) 2 (aluFlags op) (aluStep op 2 8 fun _ => n8) := by
  refine and_assoc.mp ⟨?_, exec_aluImm op n8⟩
  cases op <;> exact ⟨rfl, rfl⟩

theorem hasRow_inc (o : Operand8) : HasRow (Row.inc o) 1 flagsZ0HK (incStep o (withHL o 4 12)) := by
  refine and_assoc.mp ⟨?_, exec_inc o⟩
  rcases o with q | _
  · cases q <;> exact ⟨rfl, rfl⟩
  · exact ⟨rfl, rfl⟩

theorem hasRow_dec (o : Operand8) : HasRow (Row.dec o) 1 flagsZ1HK (decStep o (withHL o 4 12)) := by
  refine and_assoc.mp ⟨?_, exec_dec o⟩
  rcases o with q | _
  · cases q <;> exact ⟨rfl, rfl⟩
  · exact ⟨rfl, rfl⟩

theorem hasRow_shift (op : ShiftOp) (o : Operand8) :
    HasRow (Row.shift op o) 2 (shiftFlags op) (shiftStep op o (withHL o 8 16)) := by
  refine and_assoc.mp ⟨?_, exec_shift op o⟩
  rcases o with q | _
  · cases op <;> cases q <;> exact ⟨rfl, rfl⟩
  · cases op <;> exact ⟨rfl, rfl⟩

theorem hasRow_bit (b : Fin 8) (o : Operand8) :
    HasRow (Row.bit b o) 2 flagsZ01K (bitStep b.val o (withHL o 8 12)) := by
  refine and_assoc.mp ⟨?_, exec_bit b o⟩
  revert b
  rcases o with q | _
  · cases q <;> exact forall_bit (by repeat' constructor)
  · exact forall_bit (by repeat' constructor)

theorem hasRow_res (b : Fin 8) (o : Operand8) :
    HasRow (Row.res b o) 2 flagsKKKK (resStep b.val o (withHL o 8 16)) := by
  refine and_assoc.mp ⟨?_, exec_res b o⟩
  revert b
  rcases o with q | _
  · cases q <;> exact forall_bit (by repeat' constructor)
  · exact forall_bit (by repeat' constructor)

theorem hasRow_set (b : Fin 8) (o : Operand8) :
    HasRow (Row.set b o) 2 flagsKKKK (setStep b.val o (withHL o 8 16)) := by
  refine and_assoc.mp ⟨?_, exec_set b o⟩
  revert b
  rcases o with q | _
  · cases q <;> exact forall_bit (by repeat' constructor)
  · exact forall_bit (by repeat' constructor)

theorem hasRow_ldPair (p : RR) (m1 m2 : Byte) : HasRow (Row.ldPair p m1 m2) 3 flagsKKKK (ldPairStep p m1 m2) := by
  refine and_assoc.mp ⟨?_, exec_ldPair p m1 m2⟩
  cases p <;> exact ⟨rfl, rfl⟩

theorem hasRow_addHL (p : RR) : HasRow (Row.addHL p) 1 flagsK0HC (addHLStep p) := by
  refine and_assoc.mp ⟨?_, exec_addHL p⟩
  cases p <;> exact ⟨rfl, rfl⟩

theorem hasRow_incPair (p : RR) : HasRow (Row.incPair p) 1 flagsKKKK (movePairStep p 1) := by
  refine and_assoc.mp ⟨?_, exec_incPair p⟩
  cases p <;> exact ⟨rfl, rfl⟩

theorem hasRow_decPair (p : RR) : HasRow (Row.decPair p) 1 flagsKKKK (movePairStep p (-1)) := by
  refine and_assoc.mp ⟨?_, exec_decPair p⟩
  cases p <;> exact ⟨rfl, rfl⟩

theorem hasRow_push (q : QQ) : HasRow (Row.push q) 1 flagsKKKK (pushStep q) := by
  refine and_assoc.mp ⟨?_, exec_push q⟩
  cases q <;> exact ⟨rfl, rfl⟩

theorem hasRow_pop (q : QQ) : HasRow (Row.pop q) 1 (popFlags q) (popStep q) := by
  refine and_assoc.mp ⟨?_, exec_pop q⟩
  cases q <;> exact ⟨rfl, rfl⟩

theorem hasRow_jpIf (cc : Cond) (m1 m2 : Byte) : HasRow (Row.jpIf cc m1 m2) 3 flagsKKKK (jpIfStep cc m1 m2) := by
  refine and_assoc.mp ⟨?_, exec_jpIf cc m1 m2⟩
  cases cc <;> exact ⟨rfl, rfl⟩

theorem hasRow_callIf (cc : Cond) (m1 m2 : Byte) :
    HasRow (Row.callIf cc m1 m2) 3 flagsKKKK (callIfStep cc m1 m2) := by
  refine and_assoc.mp ⟨?_, exec_callIf cc m1 m2⟩
  cases cc <;> exact ⟨rfl, rfl⟩

theorem hasRow_jrIf (cc : Cond) (n8 : Byte) : HasRow (Row.jrIf cc n8) 2 flagsKKKK (jrIfStep cc n8) := by
  refine and_assoc.mp ⟨?_, exec_jrIf cc n8⟩
  cases cc <;> exact ⟨rfl, rfl⟩

theorem hasRow_retIf (cc : Cond) : HasRow (Row.retIf cc) 1 flagsKKKK (retIfStep cc) := by
  refine and_assoc.mp ⟨?_, exec_retIf cc⟩
  cases cc <;> exact ⟨rfl, rfl⟩

theorem hasRow_rst (k : Fin 8) : HasRow (Row.rst k) 1 flagsKKKK (rstStep (8 * k.val)) := by
  refine and_assoc.mp ⟨?_, exec_rst k⟩
  revert k
  exact forall_bit (by repeat' constructor)

theorem hasRow_illegal {i : Instr} (h : i ∈ Row.illegals) : HasRow i 1 flagsKKKK illegalStep := by
  refine and_assoc.mp ⟨?_, exec_illegal h⟩
  revert i
  decide

/-! Rows that stand alone. -/

theorem hasRow_nop : HasRow .nop 1 flagsKKKK nopStep := ⟨rfl, rfl, fun _ => rfl⟩
theorem hasRow_ldAtBCA : HasRow .ldAtBCA 1 flagsKKKK (storeAStep 1 8 State.bc) := ⟨rfl, rfl, fun _ => rfl⟩
theorem hasRow_ldAtDEA : HasRow .ldAtDEA 1 flagsKKKK (storeAStep 1 8 State.de) := ⟨rfl, rfl, fun _ => rfl⟩
theorem hasRow_ldAAtBC : HasRow .ldAAtBC 1 flagsKKKK (loadAStep 1 8 State.bc) := ⟨rfl, rfl, fun _ => rfl⟩
theorem hasRow_ldAAtDE : HasRow .ldAAtDE 1 flagsKKKK (loadAStep 1 8 State.de) := ⟨rfl, rfl, fun _ => rfl⟩
theorem hasRow_ldAtHLIncA : HasRow .ldAtHLIncA 1 flagsKKKK (storeAMoveStep 1) := ⟨rfl, rfl, fun _ => rfl⟩
theorem hasRow_ldAtHLDecA : HasRow .ldAtHLDecA 1 flagsKKKK (storeAMoveStep (-1)) := ⟨rfl, rfl, fun _ => rfl⟩
theorem hasRow_ldAAtHLInc : HasRow .ldAAtHLInc 1 flagsKKKK (loadAMoveStep 1) := ⟨rfl, rfl, fun _ => rfl⟩
theorem hasRow_ldAAtHLDec : HasRow .ldAAtHLDec 1 flagsKKKK (loadAMoveStep (-1)) := ⟨rfl, rfl, fun _ => rfl⟩
theorem hasRow_ldhAtA8A (n8 : Byte) : HasRow (.ldhAtA8A n8) 2 flagsKKKK (storeAStep 2 12 fun _ => ioAddress n8) :=
  ⟨rfl, rfl, fun _ => rfl⟩
theorem hasRow_ldhAAtA8 (n8 : Byte) : HasRow (.ldhAAtA8 n8) 2 flagsKKKK (loadAStep 2 12 fun _ => ioAddress n8) :=
  ⟨rfl, rfl, fun _ => rfl⟩
theorem hasRow_ldAtCA : HasRow .ldAtCA 1 flagsKKKK (storeAStep 1 8 fun s => ioAddress s.c) := ⟨rfl, rfl, fun _ => rfl⟩
theorem hasRow_ldAAtC : HasRow .ldAAtC 1 flagsKKKK (loadAStep 1 8 fun s => ioAddress s.c) := ⟨rfl, rfl, fun _ => rfl⟩
theorem hasRow_ldAtA16A (m1 m2 : Byte) : HasRow (.ldAtA16A m1 m2) 3 flagsKKKK (storeAStep 3 16 fun s => s.imm16 m1 m2) :=
  ⟨rfl, rfl, fun _ => rfl⟩
theorem hasRow_ldAAtA16 (m1 m2 : Byte) : HasRow (.ldAAtA16 m1 m2) 3 flagsKKKK (loadAStep 3 16 fun s => s.imm16 m1 m2) :=
  ⟨rfl, rfl, fun _ => rfl⟩
theorem hasRow_ldAtA16SP (m1 m2 : Byte) : HasRow (.ldAtA16SP m1 m2) 3 flagsKKKK (storeSPStep m1 m2) :=
  ⟨rfl, rfl, fun _ => rfl⟩
theorem hasRow_ldSPHL : HasRow .ldSPHL 1 flagsKKKK ldSPHLStep := ⟨rfl, rfl, fun _ => rfl⟩
theorem hasRow_ldHLSPR8 (n8 : Byte) : HasRow (.ldHLSPR8 n8) 2 flags00HC (ldHLSPStep n8) := ⟨rfl, rfl, fun _ => rfl⟩
theorem hasRow_addSPR8 (n8 : Byte) : HasRow (.addSPR8 n8) 2 flags00HC (addSPStep n8) := ⟨rfl, rfl, fun _ => rfl⟩
theorem hasRow_rlca : HasRow .rlca 1 flags000C (rotateAStep .rlc) := ⟨rfl, rfl, fun _ => rfl⟩
theorem hasRow_rrca : HasRow .rrca 1 flags000C (rotateAStep .rrc) := ⟨rfl, rfl, fun _ => rfl⟩
theorem hasRow_rla : HasRow .rla 1 flags000C (rotateAStep .rl) := ⟨rfl, rfl, fun _ => rfl⟩
theorem hasRow_rra : HasRow .rra 1 flags000C (rotateAStep .rr) := ⟨rfl, rfl, fun _ => rfl⟩
theorem hasRow_daa : HasRow .daa 1 flagsZK0C daaStep := ⟨rfl, rfl, fun _ => rfl⟩
theorem hasRow_cpl : HasRow .cpl 1 flagsK11K cplStep := ⟨rfl, rfl, fun _ => rfl⟩
theorem hasRow_scf : HasRow .scf 1 flagsK001 scfStep := ⟨rfl, rfl, fun _ => rfl⟩
theorem hasRow_ccf : HasRow .ccf 1 flagsK00C ccfStep := ⟨rfl, rfl, fun _ => rfl⟩
theorem hasRow_halt : HasRow .halt 1 flagsKKKK haltStep := ⟨rfl, rfl, fun _ => rfl⟩
theorem hasRow_stop (pad : Byte) : HasRow (.stop pad) 2 flagsKKKK (stopStep pad) := ⟨rfl, rfl, fun _ => rfl⟩
theorem hasRow_di : HasRow .di 1 flagsKKKK diStep := ⟨rfl, rfl, fun _ => rfl⟩
theorem hasRow_ei : HasRow .ei 1 flagsKKKK eiStep := ⟨rfl, rfl, fun _ => rfl⟩
theorem hasRow_jpA16 (m1 m2 : Byte) : HasRow (.jpA16 m1 m2) 3 flagsKKKK (jpStep m1 m2) := ⟨rfl, rfl, fun _ => rfl⟩
theorem hasRow_jpHL : HasRow .jpHL 1 flagsKKKK jpHLStep := ⟨rfl, rfl, fun _ => rfl⟩
theorem hasRow_jrR8 (n8 : Byte) : HasRow (.jrR8 n8) 2 flagsKKKK (jrStep n8) := ⟨rfl, rfl, fun _ => rfl⟩
theorem hasRow_callA16 (m1 m2 : Byte) : HasRow (.callA16 m1 m2) 3 flagsKKKK (callStep m1 m2) :=
  ⟨rfl, rfl, fun _ => rfl⟩
theorem hasRow_ret : HasRow .ret 1 flagsKKKK retStep := ⟨rfl, rfl, fun _ => rfl⟩
theorem hasRow_reti : HasRow .reti 1 flagsKKKK retiStep := ⟨rfl, rfl, fun _ => rfl⟩

/-! ## What a rule leaves of PC and the flags -/

/-- A step that records no fault ended as `retire` says. -/
theorem instrStep_completes {len cost notTaken : Nat} {rule : State → Word → Except FaultKind Effect} {s t : State}
    (h : instrStep len cost notTaken rule s = .next t) (hf : t.fault = none) :
    ∃ x, rule { s with haltbug := false } (s.pcNext len) = .ok x ∧ t = retire s len cost notTaken x := by
  obtain ⟨k, -, hk⟩ | ⟨x, hx, ht⟩ := instrStep_cases h
  · cases hk
    simp at hf
  · cases ht
    exact ⟨x, hx, rfl⟩

/-- A push keeps F. -/
theorem State.push16_f {s t : State} {v : Word} (h : s.push16 v = .ok t) : t.f = s.f := by
  rw [State.push16_eq] at h
  split at h
  · cases h
  · cases h
    rfl

/-- A pop keeps F. -/
theorem State.pop16_f {s t : State} {v : Word} (h : s.pop16 = .ok (v, t)) : t.f = s.f := by
  rw [State.pop16_eq] at h
  split at h
  · cases h
  · cases h
    rfl

/-- A store of a word keeps F. -/
theorem State.writeWordUp_f {s t : State} {a v : Word} (h : s.writeWordUp a v = .ok t) : t.f = s.f := by
  rw [State.writeWordUp_eq] at h
  split at h
  · cases h
  · cases h
    rfl

/-- A call that succeeds keeps F. -/
theorem callRule_f {s : State} {n target : Word} {x : Effect} (h : callRule s n target = .ok x) : x.st.f = s.f := by
  simp only [callRule] at h
  split at h
  · cases h
  · next hp =>
    cases h
    exact State.push16_f hp

/-- A return that succeeds keeps F. -/
theorem retRule_f {s : State} {x : Effect} (h : retRule s = .ok x) : x.st.f = s.f := by
  simp only [retRule] at h
  split at h
  · cases h
  · next hp =>
    cases h
    exact State.pop16_f hp

/-- A return from a handler that succeeds keeps F. -/
theorem returnFromInterrupt_f {s : State} {x : Effect} (h : returnFromInterrupt s = .ok x) : x.st.f = s.f := by
  simp only [returnFromInterrupt] at h
  split at h
  · cases h
  · next hp =>
    cases h
    exact (State.pop16_f hp :)

/-- The end of a conditional rule: its condition held and it went on as `body`, or it left the state alone. -/
theorem conditional_cases {s : State} {cc : Cond} {body : Except FaultKind Effect} {x : Effect}
    (h : (if s.cond cc then body else .ok { st := s, taken := false }) = .ok x) :
    (Claims.holds cc s.f = true ∧ body = .ok x) ∨ (Claims.holds cc s.f = false ∧ x = { st := s, taken := false }) := by
  rw [cond_eq_holds] at h
  split at h
  · next hc => exact .inl ⟨hc, h⟩
  · next hc =>
    cases h
    exact .inr ⟨Bool.eq_false_of_not_eq_true hc, rfl⟩

/-! ## Conditions and transfers -/

/-- The opcodes with a condition field (30_encoding.md rule R117). -/
def conditionalOpcodes : List Nat := Claims.jumpIfOpcodes ++ Claims.callIfOpcodes ++ Claims.retIfOpcodes

/-- A conditional jump, call or return transfers when its condition holds (46_control.md rule R299), by
the opcode's condition field (30_encoding.md rule R117). -/
theorem transfers_of_conditional {i : Instr} {cc : Cond} {f : Byte} (base : Nat) (ht : Claims.transfers i = true)
    (hv : Claims.mainOpcode i = some (base + 8 * Claims.condCode cc))
    (hc : conditionalOpcodes.contains (base + 8 * Claims.condCode cc) = true)
    (hcc : Claims.opcodeCond (base + 8 * Claims.condCode cc) = cc) :
    (Claims.transfers i && Claims.taken i f) = Claims.holds cc f := by
  rw [conditionalOpcodes] at hc
  simp only [ht, Claims.taken, hv, if_pos hc, hcc, Bool.true_and]

/-- Another jump, call or return always transfers. -/
theorem transfers_of_unconditional {i : Instr} {f : Byte} (ht : Claims.transfers i = true)
    (hp : i.spec.isPrefixed = false) (hc : conditionalOpcodes.contains i.spec.value.toNat = false) :
    (Claims.transfers i && Claims.taken i f) = true := by
  rw [conditionalOpcodes] at hc
  simp only [ht, Claims.taken, Claims.mainOpcode, hp, hc, Bool.false_eq_true, if_false, Bool.true_and]

theorem transfers_jpIf (cc : Cond) (m1 m2 f : Byte) :
    (Claims.transfers (Row.jpIf cc m1 m2) && Claims.taken (Row.jpIf cc m1 m2) f) = Claims.holds cc f := by
  cases cc <;> exact transfers_of_conditional 0xC2 rfl rfl rfl rfl

theorem transfers_callIf (cc : Cond) (m1 m2 f : Byte) :
    (Claims.transfers (Row.callIf cc m1 m2) && Claims.taken (Row.callIf cc m1 m2) f) = Claims.holds cc f := by
  cases cc <;> exact transfers_of_conditional 0xC4 rfl rfl rfl rfl

theorem transfers_jrIf (cc : Cond) (n8 f : Byte) :
    (Claims.transfers (Row.jrIf cc n8) && Claims.taken (Row.jrIf cc n8) f) = Claims.holds cc f := by
  cases cc <;> exact transfers_of_conditional 0x20 rfl rfl rfl rfl

theorem transfers_retIf (cc : Cond) (f : Byte) :
    (Claims.transfers (Row.retIf cc) && Claims.taken (Row.retIf cc) f) = Claims.holds cc f := by
  cases cc <;> exact transfers_of_conditional 0xC0 rfl rfl rfl rfl

theorem transfers_rst (k : Fin 8) (f : Byte) :
    (Claims.transfers (Row.rst k) && Claims.taken (Row.rst k) f) = true := by
  revert k
  refine forall_bit ⟨?_, ?_, ?_, ?_, ?_, ?_, ?_, ?_⟩ <;> exact transfers_of_unconditional rfl rfl rfl

/-! ## PC and the flag byte -/

/-- `pc_next` as a number: the HALT bug's lost step adds 0xFFFF (60_exceptions.md rule R400, 47_cpu_control.md rule
R321). -/
theorem State.pcNext_toNat (s : State) (len : Nat) :
    (s.pcNext len).toNat = (s.pc.toNat + len + (if s.haltbug then 0xFFFF else 0)) % 0x10000 := by
  simp only [State.pcNext, BitVec.toNat_sub, BitVec.toNat_add, BitVec.toNat_ofNat]
  cases s.haltbug
  · simp
  · simp
    omega

/-- The new flag byte is what the descriptor allows after the old one (00_scope.md rule R17, 10_state.md rules R33,
R36). -/
def FlagsAgree (fl : FlagDescriptor) (old new : Byte) : Prop :=
  Claims.flagAgrees fl.z (old.getLsbD 7) (new.getLsbD 7) ∧ Claims.flagAgrees fl.n (old.getLsbD 6) (new.getLsbD 6) ∧
  Claims.flagAgrees fl.h (old.getLsbD 5) (new.getLsbD 5) ∧ Claims.flagAgrees fl.c (old.getLsbD 4) (new.getLsbD 4) ∧
  (fl = flagsKKKK → new = old) ∧ (old &&& 0x0F#8 = 0#8 → new &&& 0x0F#8 = 0#8)

/-- F kept is what four unaffected flags allow. -/
theorem flagsAgree_of_eq {old new : Byte} (h : new = old) : FlagsAgree flagsKKKK old new := by
  subst h
  exact ⟨rfl, rfl, rfl, rfl, fun _ => rfl, id⟩

/-- Four flags packed agree with a descriptor when each agrees with its class and the row declares some effect. -/
theorem flagsAgree_packFlags {fl : FlagDescriptor} {old : Byte} {z n h c : Bool}
    (hz : Claims.flagAgrees fl.z (old.getLsbD 7) z) (hn : Claims.flagAgrees fl.n (old.getLsbD 6) n)
    (hh : Claims.flagAgrees fl.h (old.getLsbD 5) h) (hc : Claims.flagAgrees fl.c (old.getLsbD 4) c)
    (hk : fl ≠ flagsKKKK) : FlagsAgree fl old (packFlags z n h c) := by
  obtain ⟨h7, h6, h5, h4, hlow⟩ := packFlags_bits z n h c
  rw [← h7] at hz
  rw [← h6] at hn
  rw [← h5] at hh
  rw [← h4] at hc
  exact ⟨hz, hn, hh, hc, fun h => absurd h hk, fun _ => hlow⟩

/-- F loaded as data, with four computed flags. -/
theorem flagsAgree_highNibble (old v : Byte) : FlagsAgree flagsZNHC old (highNibble v) :=
  ⟨trivial, trivial, trivial, trivial, fun h => absurd h (by decide), fun _ => highNibble_low v⟩

/-- The flags an ALU operation computes are those its rows declare. -/
theorem flagsAgree_aluCompute (op : AluOp) (s : State) (v : Byte) :
    let w := aluCompute op s.a v s.flagC
    FlagsAgree (aluFlags op) s.f (packFlags w.z w.n w.h w.c) := by
  cases op with
  | add | adc => exact flagsAgree_packFlags trivial rfl trivial trivial (by decide)
  | sub | sbc | cp => exact flagsAgree_packFlags trivial rfl trivial trivial (by decide)
  | and | xor | or => exact flagsAgree_packFlags trivial rfl rfl rfl (by decide)

/-- The flags a CB shift computes are those its rows declare. -/
theorem flagsAgree_shiftCompute (op : ShiftOp) (old v : Byte) (z carry : Bool) :
    FlagsAgree (shiftFlags op) old (packFlags z false false (shiftCompute op v carry).2) := by
  cases op with
  | swap => exact flagsAgree_packFlags trivial rfl rfl rfl (by decide)
  | _ => exact flagsAgree_packFlags trivial rfl rfl trivial (by decide)

/-- A pop of AF loads F, and a pop of another pair keeps it. -/
theorem flagsAgree_setStackPair (q : QQ) (s : State) (v : Word) :
    FlagsAgree (popFlags q) s.f (s.setStackPair q v).f := by
  cases q with
  | af => exact flagsAgree_highNibble s.f (loByte v)
  | _ => exact flagsAgree_of_eq rfl

/-! ## What every instruction leaves of PC and F -/

/-- An instruction that completes goes on at `pc_next` for its own length unless it transfers, and leaves F as its row
declares. -/
def FollowsRow (i : Instr) : Prop :=
  i.wf = true → ∀ s t : State, exec i s = .next t → t.fault = none →
    ((Claims.transfers i && Claims.taken i s.f) = false → t.pc = s.pcNext (encode i).length) ∧
      FlagsAgree i.spec.flags s.f t.f

/-- A rule that names a target only where its instruction transfers, and whose flags agree with the row. -/
theorem followsRow_of_rule {i : Instr} {len cost notTaken : Nat} {fl : FlagDescriptor}
    {rule : State → Word → Except FaultKind Effect} (hr : HasRow i len fl (instrStep len cost notTaken rule))
    (hpc : ∀ s n x, rule s n = .ok x → (Claims.transfers i && Claims.taken i s.f) = false → x.target = none)
    (hf : ∀ s n x, rule s n = .ok x → FlagsAgree fl s.f x.st.f) : FollowsRow i := by
  obtain ⟨hlen, hfl, hx⟩ := hr
  intro _ s t h hfault
  rw [hx] at h
  obtain ⟨x, hrule, rfl⟩ := instrStep_completes h hfault
  rw [hlen, hfl]
  refine ⟨fun hno => ?_, hf { s with haltbug := false } _ x hrule⟩
  have hn : x.target = none := hpc { s with haltbug := false } _ x hrule hno
  simp [retire, hn]

/-- A plain step names no target. -/
theorem followsRow_of_plain {i : Instr} {len cost : Nat} {fl : FlagDescriptor} {f : State → State}
    (hr : HasRow i len fl (plainStep len cost f)) (hf : ∀ s, FlagsAgree fl s.f (f s).f) : FollowsRow i :=
  followsRow_of_rule hr (fun _ _ _ h _ => by cases h; rfl) (fun s _ _ h => by cases h; exact hf s)

/-- A plain step that leaves F alone, of a row that declares no effect on it. -/
theorem followsRow_of_plain_keepingF {i : Instr} {len cost : Nat} {f : State → State}
    (hr : HasRow i len flagsKKKK (plainStep len cost f)) (hf : ∀ s, (f s).f = s.f) : FollowsRow i :=
  followsRow_of_plain hr fun s => flagsAgree_of_eq (hf s)

/-- A rule that names no target and leaves F alone, of a row that declares no effect on it. -/
theorem followsRow_of_goesOn {i : Instr} {len cost notTaken : Nat} {rule : State → Word → Except FaultKind Effect}
    (hr : HasRow i len flagsKKKK (instrStep len cost notTaken rule))
    (h : ∀ s n x, rule s n = .ok x → x.target = none ∧ x.st.f = s.f) : FollowsRow i :=
  followsRow_of_rule hr (fun s n x hx _ => (h s n x hx).1) fun s n x hx => flagsAgree_of_eq (h s n x hx).2

/-- An unconditional jump, call or return always transfers. -/
theorem followsRow_of_transfer {i : Instr} {len cost notTaken : Nat} {rule : State → Word → Except FaultKind Effect}
    (hr : HasRow i len flagsKKKK (instrStep len cost notTaken rule))
    (ht : ∀ f, (Claims.transfers i && Claims.taken i f) = true)
    (hf : ∀ s n x, rule s n = .ok x → x.st.f = s.f) : FollowsRow i :=
  followsRow_of_rule hr (fun s _ _ _ hno => by simp [ht s.f] at hno) fun s n x h => flagsAgree_of_eq (hf s n x h)

/-- A conditional rule transfers exactly when its condition holds. -/
theorem followsRow_of_conditional {i : Instr} {cc : Cond} {len cost notTaken : Nat}
    {body : State → Word → Except FaultKind Effect}
    (hr : HasRow i len flagsKKKK (instrStep len cost notTaken fun s n =>
      if s.cond cc then body s n else .ok { st := s, taken := false }))
    (ht : ∀ f, (Claims.transfers i && Claims.taken i f) = Claims.holds cc f)
    (hf : ∀ s n x, body s n = .ok x → x.st.f = s.f) : FollowsRow i := by
  refine followsRow_of_rule hr (fun s n x h hno => ?_) fun s n x h => flagsAgree_of_eq ?_
  · obtain ⟨hc, -⟩ | ⟨-, rfl⟩ := conditional_cases h
    · simp [ht s.f, hc] at hno
    · rfl
  · obtain ⟨-, hb⟩ | ⟨-, rfl⟩ := conditional_cases h
    · exact hf s n x hb
    · rfl

/-- The families one by one: the loads and stores leave F alone, the arithmetic packs it, `POP AF` loads it, and the
transfers are the rows with a target. -/
theorem followsRow : ∀ i : Instr, FollowsRow i := by
  apply Instr.byFamily
  case ld => exact fun d r h => followsRow_of_plain_keepingF (hasRow_ld d r h) fun s => State.setOperand_f s d _
  case ldImm => exact fun o n8 => followsRow_of_plain_keepingF (hasRow_ldImm o n8) fun s => State.setOperand_f s o n8
  case res => exact fun b o => followsRow_of_plain_keepingF (hasRow_res b o) fun s => State.setOperand_f s o _
  case set => exact fun b o => followsRow_of_plain_keepingF (hasRow_set b o) fun s => State.setOperand_f s o _
  case ldPair =>
    exact fun p m1 m2 => followsRow_of_plain_keepingF (hasRow_ldPair p m1 m2) fun s => State.setPair_f s p _
  case incPair => exact fun p => followsRow_of_plain_keepingF (hasRow_incPair p) fun s => State.setPair_f s p _
  case decPair => exact fun p => followsRow_of_plain_keepingF (hasRow_decPair p) fun s => State.setPair_f s p _
  case alu => exact fun op o => followsRow_of_plain (hasRow_alu op o) fun s => flagsAgree_aluCompute op s _
  case aluImm => exact fun op n8 => followsRow_of_plain (hasRow_aluImm op n8) fun s => flagsAgree_aluCompute op s n8
  case inc =>
    exact fun o => followsRow_of_plain (hasRow_inc o) fun _ => flagsAgree_packFlags trivial rfl trivial rfl (by decide)
  case dec =>
    exact fun o => followsRow_of_plain (hasRow_dec o) fun _ => flagsAgree_packFlags trivial rfl trivial rfl (by decide)
  case shift => exact fun op o => followsRow_of_plain (hasRow_shift op o) fun s => flagsAgree_shiftCompute op s.f _ _ _
  case bit =>
    exact fun b o => followsRow_of_plain (hasRow_bit b o) fun _ => flagsAgree_packFlags trivial rfl rfl rfl (by decide)
  case addHL =>
    exact fun p => followsRow_of_plain (hasRow_addHL p) fun _ => flagsAgree_packFlags rfl rfl trivial trivial (by decide)
  case push =>
    refine fun q => followsRow_of_goesOn (hasRow_push q) fun s n x h => ?_
    split at h
    · cases h
    · next hp =>
      cases h
      exact ⟨rfl, State.push16_f hp⟩
  case pop =>
    refine fun q => followsRow_of_rule (hasRow_pop q) (fun s n x h _ => ?_) fun s n x h => ?_
    · split at h <;> cases h
      rfl
    · split at h
      · cases h
      · next hp =>
        cases h
        rw [← State.pop16_f hp]
        exact flagsAgree_setStackPair q _ _
  case ldAtA16SP =>
    refine fun m1 m2 => followsRow_of_goesOn (hasRow_ldAtA16SP m1 m2) fun s n x h => ?_
    split at h
    · cases h
    · next hp =>
      cases h
      exact ⟨rfl, State.writeWordUp_f hp⟩
  case ei => exact followsRow_of_goesOn hasRow_ei fun _ _ _ h => by cases h; exact ⟨rfl, rfl⟩
  case illegal => exact fun i hi => followsRow_of_goesOn (hasRow_illegal hi) fun _ _ _ h => by cases h
  case jpIf =>
    exact fun cc m1 m2 => followsRow_of_conditional (hasRow_jpIf cc m1 m2) (transfers_jpIf cc m1 m2)
      fun _ _ _ h => by cases h; rfl
  case callIf =>
    exact fun cc m1 m2 => followsRow_of_conditional (hasRow_callIf cc m1 m2) (transfers_callIf cc m1 m2)
      fun _ _ _ => callRule_f
  case jrIf =>
    exact fun cc n8 => followsRow_of_conditional (hasRow_jrIf cc n8) (transfers_jrIf cc n8)
      fun _ _ _ h => by cases h; rfl
  case retIf =>
    exact fun cc => followsRow_of_conditional (hasRow_retIf cc) (transfers_retIf cc)
      fun _ _ _ => retRule_f
  case rst =>
    refine fun k => followsRow_of_transfer (hasRow_rst k) (transfers_rst k) fun s n x h => ?_
    split at h
    · exact callRule_f h
    · cases h
  case jpA16 =>
    exact fun m1 m2 => followsRow_of_transfer (hasRow_jpA16 m1 m2) (fun _ => transfers_of_unconditional rfl rfl rfl)
      fun _ _ _ h => by cases h; rfl
  case jrR8 =>
    exact fun n8 => followsRow_of_transfer (hasRow_jrR8 n8) (fun _ => transfers_of_unconditional rfl rfl rfl)
      fun _ _ _ h => by cases h; rfl
  case jpHL =>
    exact followsRow_of_transfer hasRow_jpHL (fun _ => transfers_of_unconditional rfl rfl rfl)
      fun _ _ _ h => by cases h; rfl
  case callA16 =>
    exact fun m1 m2 => followsRow_of_transfer (hasRow_callA16 m1 m2) (fun _ => transfers_of_unconditional rfl rfl rfl)
      fun _ _ _ => callRule_f
  case ret =>
    exact followsRow_of_transfer hasRow_ret (fun _ => transfers_of_unconditional rfl rfl rfl) fun _ _ _ => retRule_f
  case reti =>
    exact followsRow_of_transfer hasRow_reti (fun _ => transfers_of_unconditional rfl rfl rfl)
      fun _ _ _ => returnFromInterrupt_f
  case prefixCB => exact fun _ => nofun
  case rlca => exact followsRow_of_plain hasRow_rlca fun _ => flagsAgree_packFlags rfl rfl rfl trivial (by decide)
  case rrca => exact followsRow_of_plain hasRow_rrca fun _ => flagsAgree_packFlags rfl rfl rfl trivial (by decide)
  case rla => exact followsRow_of_plain hasRow_rla fun _ => flagsAgree_packFlags rfl rfl rfl trivial (by decide)
  case rra => exact followsRow_of_plain hasRow_rra fun _ => flagsAgree_packFlags rfl rfl rfl trivial (by decide)
  case daa => exact followsRow_of_plain hasRow_daa fun _ => flagsAgree_packFlags trivial rfl rfl trivial (by decide)
  case cpl => exact followsRow_of_plain hasRow_cpl fun _ => flagsAgree_packFlags rfl rfl rfl rfl (by decide)
  case scf => exact followsRow_of_plain hasRow_scf fun _ => flagsAgree_packFlags rfl rfl rfl rfl (by decide)
  case ccf => exact followsRow_of_plain hasRow_ccf fun _ => flagsAgree_packFlags rfl rfl rfl trivial (by decide)
  case addSPR8 =>
    exact fun n8 => followsRow_of_plain (hasRow_addSPR8 n8)
      fun _ => flagsAgree_packFlags rfl rfl trivial trivial (by decide)
  case ldHLSPR8 =>
    exact fun n8 => followsRow_of_plain (hasRow_ldHLSPR8 n8)
      fun _ => flagsAgree_packFlags rfl rfl trivial trivial (by decide)
  case halt => exact followsRow_of_plain_keepingF hasRow_halt fun _ => by split <;> rfl
  case ldAtHLIncA =>
    exact followsRow_of_plain_keepingF hasRow_ldAtHLIncA fun s => State.setHL_f (s.writeByte s.hl s.a) _
  case ldAtHLDecA =>
    exact followsRow_of_plain_keepingF hasRow_ldAtHLDecA fun s => State.setHL_f (s.writeByte s.hl s.a) _
  case nop => exact followsRow_of_plain_keepingF hasRow_nop fun _ => rfl
  case stop => exact fun pad => followsRow_of_plain_keepingF (hasRow_stop pad) fun _ => rfl
  case di => exact followsRow_of_plain_keepingF hasRow_di fun _ => rfl
  case ldAtBCA => exact followsRow_of_plain_keepingF hasRow_ldAtBCA fun _ => rfl
  case ldAtDEA => exact followsRow_of_plain_keepingF hasRow_ldAtDEA fun _ => rfl
  case ldAAtBC => exact followsRow_of_plain_keepingF hasRow_ldAAtBC fun _ => rfl
  case ldAAtDE => exact followsRow_of_plain_keepingF hasRow_ldAAtDE fun _ => rfl
  case ldAAtHLInc => exact followsRow_of_plain_keepingF hasRow_ldAAtHLInc fun _ => rfl
  case ldAAtHLDec => exact followsRow_of_plain_keepingF hasRow_ldAAtHLDec fun _ => rfl
  case ldhAtA8A => exact fun n8 => followsRow_of_plain_keepingF (hasRow_ldhAtA8A n8) fun _ => rfl
  case ldhAAtA8 => exact fun n8 => followsRow_of_plain_keepingF (hasRow_ldhAAtA8 n8) fun _ => rfl
  case ldAtCA => exact followsRow_of_plain_keepingF hasRow_ldAtCA fun _ => rfl
  case ldAAtC => exact followsRow_of_plain_keepingF hasRow_ldAAtC fun _ => rfl
  case ldAtA16A => exact fun m1 m2 => followsRow_of_plain_keepingF (hasRow_ldAtA16A m1 m2) fun _ => rfl
  case ldAAtA16 => exact fun m1 m2 => followsRow_of_plain_keepingF (hasRow_ldAAtA16 m1 m2) fun _ => rfl
  case ldSPHL => exact followsRow_of_plain_keepingF hasRow_ldSPHL fun _ => rfl

/-- Settles O15: a rule that names no target goes on at `pc_next`, and only the transfers name one. -/
theorem programCounterAdvances : Obligations.ProgramCounterAdvances := by
  unfold Obligations.ProgramCounterAdvances
  intro i s t hwf h hf hno
  obtain ⟨hpc, -⟩ := followsRow i hwf s t h hf
  rw [hpc hno, State.pcNext_toNat]

/-- Settles O16: a rule leaves F alone, or packs four flags of the classes its row declares, or is that of `POP AF`. -/
theorem flagsFollowDescriptor : Obligations.FlagsFollowDescriptor := by
  unfold Obligations.FlagsFollowDescriptor
  intro i s t hwf h hf
  obtain ⟨-, hflags⟩ := followsRow i hwf s t h hf
  exact hflags

end Sys2Proof.Machine

/-! PROOFS. The state as a whole (10_state.md): what every instruction leaves of the control state (O12) and of the
registers (O17), the invariant that every step keeps (O49), and the state right after reset (O46, O48). -/

namespace Sys2Proof.Machine

/-! ## Data and control -/

/-- The state with its data blanked: the registers but PC, and what is behind `BUS`. -/
def State.withoutData (s : State) : State :=
  { s with a := 0, f := 0, b := 0, c := 0, d := 0, e := 0, h := 0, l := 0, sp := 0, mem := [], device := [] }

/-- The clauses of the invariant about data: memory is canonical and F's low nibble is zero (10_state.md rule R33). -/
def DataOk (s : State) : Prop := Memory.wf s.mem = true ∧ s.f &&& 0x0F#8 = 0#8

/-- Nothing but data changes, and good data stay good. -/
def ChangesData (s t : State) : Prop := t.withoutData = s.withoutData ∧ (DataOk s → DataOk t)

theorem ChangesData.rfl {s : State} : ChangesData s s := ⟨Eq.refl _, id⟩

theorem ChangesData.trans {s t u : State} (h : ChangesData s t) (h' : ChangesData t u) : ChangesData s u :=
  ⟨h'.1.trans h.1, h'.2 ∘ h.2⟩

/-- Data that change while memory and F stand. -/
theorem changesData_of_eq {s t : State} (h : t.withoutData = s.withoutData) (hm : t.mem = s.mem) (hf : t.f = s.f) :
    ChangesData s t :=
  ⟨h, fun ⟨hw, hl⟩ => ⟨hm ▸ hw, hf ▸ hl⟩⟩

theorem changesData_setFlags (s : State) (z n h c : Bool) : ChangesData s (s.setFlags z n h c) :=
  ⟨rfl, fun ⟨hw, _⟩ => ⟨hw, packFlags_low z n h c⟩⟩

theorem changesData_writeByte (s : State) (a : Word) (v : Byte) : ChangesData s (s.writeByte a v) :=
  ⟨rfl, fun ⟨hw, hl⟩ => ⟨State.writeByte_wf hw a v, hl⟩⟩

theorem changesData_setOperand (s : State) (o : Operand8) (v : Byte) : ChangesData s (s.setOperand o v) := by
  cases o with
  | reg r => exact changesData_of_eq (by cases r <;> rfl) (State.setReg_mem s r v) (State.setReg_f s r v)
  | atHL => exact changesData_writeByte s s.hl v

theorem changesData_setPair (s : State) (p : RR) (v : Word) : ChangesData s (s.setPair p v) :=
  changesData_of_eq (by cases p <;> rfl) (State.setPair_mem s p v) (State.setPair_f s p v)

theorem changesData_setHL (s : State) (v : Word) : ChangesData s (s.setHL v) := changesData_of_eq rfl rfl rfl

theorem changesData_setStackPair (s : State) (q : QQ) (v : Word) : ChangesData s (s.setStackPair q v) := by
  cases q with
  | af => exact ⟨rfl, fun ⟨hw, _⟩ => ⟨hw, highNibble_low (loByte v)⟩⟩
  | _ => exact changesData_of_eq rfl rfl rfl

theorem changesData_push16 {s t : State} {v : Word} (h : s.push16 v = .ok t) : ChangesData s t := by
  rw [State.push16_eq] at h
  split at h <;> cases h
  exact ((changesData_writeByte s _ _).trans (changesData_writeByte _ _ _)).trans (changesData_of_eq rfl rfl rfl)

theorem changesData_pop16 {s t : State} {v : Word} (h : s.pop16 = .ok (v, t)) : ChangesData s t := by
  rw [State.pop16_eq] at h
  split at h <;> cases h
  exact changesData_of_eq rfl rfl rfl

theorem changesData_writeWordUp {s t : State} {a v : Word} (h : s.writeWordUp a v = .ok t) : ChangesData s t := by
  rw [State.writeWordUp_eq] at h
  split at h <;> cases h
  exact (changesData_writeByte s _ _).trans (changesData_writeByte _ _ _)

theorem changesData_callRule {s : State} {n target : Word} {x : Effect} (h : callRule s n target = .ok x) :
    ChangesData s x.st ∧ x.armEI = false := by
  simp only [callRule] at h
  split at h <;> cases h
  exact ⟨changesData_push16 ‹_›, rfl⟩

theorem changesData_retRule {s : State} {x : Effect} (h : retRule s = .ok x) :
    ChangesData s x.st ∧ x.armEI = false := by
  simp only [retRule] at h
  split at h <;> cases h
  exact ⟨changesData_pop16 ‹_›, rfl⟩

/-! ## What a step does to the control state -/

/-- An instruction step whose rule, if it does not raise, changes data after the control effect `c`, and arms the
delayed enable or not (60_exceptions.md rules R400, R405). -/
def ActsAs (c : State → State) (arm : Bool) (step : State → Result) : Prop :=
  ∃ len cost notTaken rule, (∀ s, step s = instrStep len cost notTaken rule s) ∧
    ∀ s n x, rule s n = .ok x → ChangesData (c s) x.st ∧ x.armEI = arm

/-- All that such a step can do. -/
theorem ActsAs.cases {c : State → State} {arm : Bool} {step : State → Result} (h : ActsAs c arm step) {s t : State}
    (hn : step s = .next t) :
    (∃ k, t = s.raise k) ∨
    ∃ u pc cost, ChangesData (c { s with haltbug := false }) u ∧
      t = { u with pc := pc, ime := u.ime || (s.eiArmed && u.eiArmed), eiArmed := arm, cycles := u.cycles + cost } := by
  obtain ⟨len, cost, notTaken, rule, hstep, hrule⟩ := h
  rw [hstep] at hn
  obtain ⟨k, -, hk⟩ | ⟨x, hx, ht⟩ := instrStep_cases hn
  · cases hk
    exact .inl ⟨k, rfl⟩
  · cases ht
    obtain ⟨hd, rfl⟩ := hrule _ _ _ hx
    exact .inr ⟨x.st, _, _, hd, rfl⟩

theorem actsAs_of_hasRow {c : State → State} {arm : Bool} {i : Instr} {len : Nat} {fl : FlagDescriptor}
    {step : State → Result} (hr : HasRow i len fl step) (h : ActsAs c arm step) : ActsAs c arm (exec i) := by
  obtain ⟨-, -, hx⟩ := hr
  rwa [show exec i = step from funext hx]

theorem actsAs_plainStep {c f : State → State} {len cost : Nat} (h : ∀ s, ChangesData (c s) (f s)) :
    ActsAs c false (plainStep len cost f) :=
  ⟨len, cost, 0, _, fun _ => rfl, fun s _ _ hx => by cases hx; exact ⟨h s, rfl⟩⟩

/-- A step that works on data alone. -/
abbrev DataStep (step : State → Result) : Prop := ActsAs id false step

theorem dataStep_instrStep {len cost notTaken : Nat} {rule : State → Word → Except FaultKind Effect}
    (h : ∀ s n x, rule s n = .ok x → ChangesData s x.st ∧ x.armEI = false) :
    DataStep (instrStep len cost notTaken rule) :=
  ⟨len, cost, notTaken, rule, fun _ => rfl, h⟩

theorem dataStep_conditional {cc : Cond} {len cost notTaken : Nat} {body : State → Word → Except FaultKind Effect}
    (h : ∀ s n x, body s n = .ok x → ChangesData s x.st ∧ x.armEI = false) :
    DataStep (instrStep len cost notTaken fun s n =>
      if s.cond cc then body s n else .ok { st := s, taken := false }) :=
  dataStep_instrStep fun s n x hx => by
    obtain ⟨-, hb⟩ | ⟨-, rfl⟩ := conditional_cases hx
    · exact h s n x hb
    · exact ⟨.rfl, rfl⟩

/-! The steps that rows share. -/

theorem dataStep_storeAStep (len cost : Nat) (address : State → Word) : DataStep (storeAStep len cost address) :=
  actsAs_plainStep fun s => changesData_writeByte s _ _

theorem dataStep_loadAStep (len cost : Nat) (address : State → Word) : DataStep (loadAStep len cost address) :=
  actsAs_plainStep fun _ => changesData_of_eq rfl rfl rfl

theorem dataStep_storeAMoveStep (delta : Word) : DataStep (storeAMoveStep delta) :=
  actsAs_plainStep fun s => (changesData_writeByte s _ _).trans (changesData_setHL _ _)

theorem dataStep_loadAMoveStep (delta : Word) : DataStep (loadAMoveStep delta) :=
  actsAs_plainStep fun _ => changesData_of_eq rfl rfl rfl

/-- A step that writes A and F. -/
theorem dataStep_accumulator {len cost : Nat} (a : State → Byte) (z n h c : State → Bool) :
    DataStep (plainStep len cost fun s => ({ s with a := a s } : State).setFlags (z s) (n s) (h s) (c s)) :=
  actsAs_plainStep fun s =>
    (changesData_of_eq rfl rfl rfl : ChangesData s { s with a := a s }).trans (changesData_setFlags _ _ _ _ _)

/-- A step that writes an operand and F. -/
theorem dataStep_operand {len cost : Nat} (o : Operand8) (v : State → Byte) (z n h c : State → Bool) :
    DataStep (plainStep len cost fun s => (s.setOperand o (v s)).setFlags (z s) (n s) (h s) (c s)) :=
  actsAs_plainStep fun s => (changesData_setOperand s o (v s)).trans (changesData_setFlags _ _ _ _ _)

theorem dataStep_shiftStep (op : ShiftOp) (o : Operand8) (cost : Nat) : DataStep (shiftStep op o cost) :=
  dataStep_operand o _ _ _ _ _

theorem dataStep_bitStep (b : Nat) (o : Operand8) (cost : Nat) : DataStep (bitStep b o cost) :=
  actsAs_plainStep fun s => changesData_setFlags s _ _ _ _

theorem dataStep_resStep (b : Nat) (o : Operand8) (cost : Nat) : DataStep (resStep b o cost) :=
  actsAs_plainStep fun s => changesData_setOperand s o _

theorem dataStep_setStep (b : Nat) (o : Operand8) (cost : Nat) : DataStep (setStep b o cost) :=
  actsAs_plainStep fun s => changesData_setOperand s o _

/-- The row of the byte 0xCB works on data as the CB row it stands for does (47_cpu_control.md rule R325). -/
theorem dataStep_prefixStep (op : Byte) : DataStep (prefixStep op) := by
  unfold prefixStep
  dsimp only
  split
  · exact dataStep_shiftStep _ _ _
  · exact dataStep_bitStep _ _ _
  · exact dataStep_resStep _ _ _
  · exact dataStep_setStep _ _ _

/-! ## What an instruction does to the control state -/

/-- The rows that do more than work on data: `DI`, `EI`, `HALT`, `STOP` and `RETI` (10_state.md rules R39 to R42). -/
def controlRow : Instr → Bool
  | .di | .ei | .halt | .stop _ | .reti => true
  | _ => false

/-- Every other instruction works on data alone. -/
theorem exec_dataStep : ∀ i : Instr, controlRow i = false → DataStep (exec i) := by
  apply Instr.byFamily
  case di | ei | halt | reti => exact nofun
  case stop => exact fun _ => nofun
  case ld =>
    exact fun d r h _ => actsAs_of_hasRow (hasRow_ld d r h) (actsAs_plainStep fun s => changesData_setOperand s d _)
  case ldImm =>
    exact fun o n8 _ => actsAs_of_hasRow (hasRow_ldImm o n8) (actsAs_plainStep fun s => changesData_setOperand s o n8)
  case alu => exact fun op o _ => actsAs_of_hasRow (hasRow_alu op o) (dataStep_accumulator _ _ _ _ _)
  case aluImm => exact fun op n8 _ => actsAs_of_hasRow (hasRow_aluImm op n8) (dataStep_accumulator _ _ _ _ _)
  case inc => exact fun o _ => actsAs_of_hasRow (hasRow_inc o) (dataStep_operand o _ _ _ _ _)
  case dec => exact fun o _ => actsAs_of_hasRow (hasRow_dec o) (dataStep_operand o _ _ _ _ _)
  case shift => exact fun op o _ => actsAs_of_hasRow (hasRow_shift op o) (dataStep_shiftStep _ _ _)
  case bit => exact fun b o _ => actsAs_of_hasRow (hasRow_bit b o) (dataStep_bitStep _ _ _)
  case res => exact fun b o _ => actsAs_of_hasRow (hasRow_res b o) (dataStep_resStep _ _ _)
  case set => exact fun b o _ => actsAs_of_hasRow (hasRow_set b o) (dataStep_setStep _ _ _)
  case prefixCB => exact fun op _ => dataStep_prefixStep op
  case ldPair =>
    exact fun p m1 m2 _ => actsAs_of_hasRow (hasRow_ldPair p m1 m2)
      (actsAs_plainStep fun s => changesData_setPair s p _)
  case incPair =>
    exact fun p _ => actsAs_of_hasRow (hasRow_incPair p) (actsAs_plainStep fun s => changesData_setPair s p _)
  case decPair =>
    exact fun p _ => actsAs_of_hasRow (hasRow_decPair p) (actsAs_plainStep fun s => changesData_setPair s p _)
  case addHL =>
    exact fun p _ => actsAs_of_hasRow (hasRow_addHL p)
      (actsAs_plainStep fun s => (changesData_setHL s _).trans (changesData_setFlags _ _ _ _ _))
  case push =>
    refine fun q _ => actsAs_of_hasRow (hasRow_push q) (dataStep_instrStep fun s n x hx => ?_)
    split at hx <;> cases hx
    exact ⟨changesData_push16 ‹_›, rfl⟩
  case pop =>
    refine fun q _ => actsAs_of_hasRow (hasRow_pop q) (dataStep_instrStep fun s n x hx => ?_)
    split at hx <;> cases hx
    exact ⟨(changesData_pop16 ‹_›).trans (changesData_setStackPair _ q _), rfl⟩
  case ldAtA16SP =>
    refine fun m1 m2 _ => actsAs_of_hasRow (hasRow_ldAtA16SP m1 m2) (dataStep_instrStep fun s n x hx => ?_)
    split at hx <;> cases hx
    exact ⟨changesData_writeWordUp ‹_›, rfl⟩
  case jpIf =>
    exact fun cc m1 m2 _ => actsAs_of_hasRow (hasRow_jpIf cc m1 m2)
      (dataStep_conditional fun _ _ _ hx => by cases hx; exact ⟨.rfl, rfl⟩)
  case jrIf =>
    exact fun cc n8 _ => actsAs_of_hasRow (hasRow_jrIf cc n8)
      (dataStep_conditional fun _ _ _ hx => by cases hx; exact ⟨.rfl, rfl⟩)
  case callIf =>
    exact fun cc m1 m2 _ => actsAs_of_hasRow (hasRow_callIf cc m1 m2)
      (dataStep_conditional fun _ _ _ => changesData_callRule)
  case retIf =>
    exact fun cc _ => actsAs_of_hasRow (hasRow_retIf cc) (dataStep_conditional fun _ _ _ => changesData_retRule)
  case rst =>
    refine fun k _ => actsAs_of_hasRow (hasRow_rst k) (dataStep_instrStep fun s n x hx => ?_)
    split at hx
    · exact changesData_callRule hx
    · cases hx
  case jpA16 =>
    exact fun m1 m2 _ => actsAs_of_hasRow (hasRow_jpA16 m1 m2)
      (dataStep_instrStep fun _ _ _ hx => by cases hx; exact ⟨.rfl, rfl⟩)
  case jrR8 =>
    exact fun n8 _ => actsAs_of_hasRow (hasRow_jrR8 n8)
      (dataStep_instrStep fun _ _ _ hx => by cases hx; exact ⟨.rfl, rfl⟩)
  case jpHL =>
    exact fun _ => actsAs_of_hasRow hasRow_jpHL
      (dataStep_instrStep fun _ _ _ hx => by cases hx; exact ⟨.rfl, rfl⟩)
  case callA16 =>
    exact fun m1 m2 _ => actsAs_of_hasRow (hasRow_callA16 m1 m2)
      (dataStep_instrStep fun _ _ _ => changesData_callRule)
  case ret => exact fun _ => actsAs_of_hasRow hasRow_ret (dataStep_instrStep fun _ _ _ => changesData_retRule)
  case illegal =>
    exact fun i hi _ => actsAs_of_hasRow (hasRow_illegal hi) (dataStep_instrStep fun _ _ _ hx => by cases hx)
  case nop => exact fun _ => actsAs_of_hasRow hasRow_nop (actsAs_plainStep fun _ => .rfl)
  case rlca => exact fun _ => actsAs_of_hasRow hasRow_rlca (dataStep_accumulator _ _ _ _ _)
  case rrca => exact fun _ => actsAs_of_hasRow hasRow_rrca (dataStep_accumulator _ _ _ _ _)
  case rla => exact fun _ => actsAs_of_hasRow hasRow_rla (dataStep_accumulator _ _ _ _ _)
  case rra => exact fun _ => actsAs_of_hasRow hasRow_rra (dataStep_accumulator _ _ _ _ _)
  case daa => exact fun _ => actsAs_of_hasRow hasRow_daa (dataStep_accumulator _ _ _ _ _)
  case cpl => exact fun _ => actsAs_of_hasRow hasRow_cpl (dataStep_accumulator _ _ _ _ _)
  case scf => exact fun _ => actsAs_of_hasRow hasRow_scf (actsAs_plainStep fun s => changesData_setFlags s _ _ _ _)
  case ccf => exact fun _ => actsAs_of_hasRow hasRow_ccf (actsAs_plainStep fun s => changesData_setFlags s _ _ _ _)
  case addSPR8 =>
    exact fun n8 _ => actsAs_of_hasRow (hasRow_addSPR8 n8) (actsAs_plainStep fun s =>
      (changesData_setPair s .sp _).trans (changesData_setFlags _ _ _ _ _))
  case ldHLSPR8 =>
    exact fun n8 _ => actsAs_of_hasRow (hasRow_ldHLSPR8 n8) (actsAs_plainStep fun s =>
      (changesData_setFlags s _ _ _ _).trans (changesData_setHL _ _))
  case ldSPHL => exact fun _ => actsAs_of_hasRow hasRow_ldSPHL (actsAs_plainStep fun s => changesData_setPair s .sp _)
  case ldAtHLIncA => exact fun _ => actsAs_of_hasRow hasRow_ldAtHLIncA (dataStep_storeAMoveStep _)
  case ldAtHLDecA => exact fun _ => actsAs_of_hasRow hasRow_ldAtHLDecA (dataStep_storeAMoveStep _)
  case ldAAtHLInc => exact fun _ => actsAs_of_hasRow hasRow_ldAAtHLInc (dataStep_loadAMoveStep _)
  case ldAAtHLDec => exact fun _ => actsAs_of_hasRow hasRow_ldAAtHLDec (dataStep_loadAMoveStep _)
  case ldAtBCA => exact fun _ => actsAs_of_hasRow hasRow_ldAtBCA (dataStep_storeAStep _ _ _)
  case ldAtDEA => exact fun _ => actsAs_of_hasRow hasRow_ldAtDEA (dataStep_storeAStep _ _ _)
  case ldAtCA => exact fun _ => actsAs_of_hasRow hasRow_ldAtCA (dataStep_storeAStep _ _ _)
  case ldhAtA8A => exact fun n8 _ => actsAs_of_hasRow (hasRow_ldhAtA8A n8) (dataStep_storeAStep _ _ _)
  case ldAtA16A => exact fun m1 m2 _ => actsAs_of_hasRow (hasRow_ldAtA16A m1 m2) (dataStep_storeAStep _ _ _)
  case ldAAtBC => exact fun _ => actsAs_of_hasRow hasRow_ldAAtBC (dataStep_loadAStep _ _ _)
  case ldAAtDE => exact fun _ => actsAs_of_hasRow hasRow_ldAAtDE (dataStep_loadAStep _ _ _)
  case ldAAtC => exact fun _ => actsAs_of_hasRow hasRow_ldAAtC (dataStep_loadAStep _ _ _)
  case ldhAAtA8 => exact fun n8 _ => actsAs_of_hasRow (hasRow_ldhAAtA8 n8) (dataStep_loadAStep _ _ _)
  case ldAAtA16 => exact fun m1 m2 _ => actsAs_of_hasRow (hasRow_ldAAtA16 m1 m2) (dataStep_loadAStep _ _ _)

/-- What an instruction does to the control state besides what every instruction does at its end (10_state.md rules
R39 to R42, 47_cpu_control.md rules R321 to R324, 46_control.md rule R309). -/
def controlEffect (i : Instr) (s : State) : State :=
  match i with
  | .di => { s with ime := false, eiArmed := false }
  | .reti => { s with ime := true }
  | .stop _ => { s with stopped := true }
  | .halt =>
    if s.cfg.haltBug && !s.ime && s.pending != 0#8 then { s with haltbug := true } else { s with halted := true }
  | _ => s

theorem controlRow_cases {i : Instr} (h : controlRow i = true) :
    i = .di ∨ i = .ei ∨ i = .halt ∨ (∃ pad, i = .stop pad) ∨ i = .reti := by
  unfold controlRow at h
  split at h
  · exact .inl rfl
  · exact .inr (.inl rfl)
  · exact .inr (.inr (.inl rfl))
  · exact .inr (.inr (.inr (.inl ⟨_, rfl⟩)))
  · exact .inr (.inr (.inr (.inr rfl)))
  · cases h

theorem controlEffect_of_not_controlRow {i : Instr} (h : controlRow i = false) : controlEffect i = id := by
  funext s
  unfold controlEffect
  split
  case h_5 => rfl
  all_goals cases h

/-- Every instruction has its control effect, works on data, and arms the delayed enable if it is `EI`. -/
theorem exec_actsAs (i : Instr) : ActsAs (controlEffect i) (decide (i = .ei)) (exec i) := by
  cases h : controlRow i with
  | false =>
    have hei : i ≠ .ei := by rintro rfl; cases h
    rw [controlEffect_of_not_controlRow h, decide_eq_false hei]
    exact exec_dataStep i h
  | true =>
    obtain rfl | rfl | rfl | ⟨pad, rfl⟩ | rfl := controlRow_cases h
    · exact actsAs_of_hasRow hasRow_di (actsAs_plainStep fun _ => .rfl)
    · exact actsAs_of_hasRow hasRow_ei ⟨1, 4, 0, _, fun _ => rfl, fun _ _ _ hx => by cases hx; exact ⟨.rfl, rfl⟩⟩
    · exact actsAs_of_hasRow hasRow_halt (actsAs_plainStep fun _ => .rfl)
    · exact actsAs_of_hasRow (hasRow_stop pad) (actsAs_plainStep fun _ => .rfl)
    · refine actsAs_of_hasRow hasRow_reti ⟨1, 16, 0, _, fun _ => rfl, fun s _ x hx => ?_⟩
      simp only [returnFromInterrupt] at hx
      split at hx <;> cases hx
      obtain ⟨hc, hd⟩ := changesData_pop16 ‹_›
      exact ⟨⟨congrArg (fun u : State => { u with ime := true }) hc, hd⟩, rfl⟩

/-- Among the rows that work on data alone none has the opcode 0x10, which is `STOP`. -/
theorem not_isOneOf_stop (i : Instr) (h : controlRow i = false) : Claims.isOneOf i [0x10] = false := by
  cases i
  case stop => cases h
  all_goals rfl

/-- States that differ in data alone have the same control state. -/
theorem control_of_withoutData_eq {s t : State} (h : t.withoutData = s.withoutData) :
    t.ime = s.ime ∧ t.eiArmed = s.eiArmed ∧ t.halted = s.halted ∧ t.stopped = s.stopped ∧ t.haltbug = s.haltbug :=
  ⟨(congrArg State.ime h :), (congrArg State.eiArmed h :), (congrArg State.halted h :), (congrArg State.stopped h :),
    (congrArg State.haltbug h :)⟩

/-- Settles O12: an instruction that completes leaves the control state of its control effect, with the delayed enable
of `EI` and the halt bug cleared. -/
theorem controlFlagsChange : Obligations.ControlFlagsChange := by
  unfold Obligations.ControlFlagsChange
  intro i s t h hf
  obtain ⟨k, rfl⟩ | ⟨u, pc, cost, ⟨hu, -⟩, rfl⟩ := (exec_actsAs i).cases h
  · cases hf
  obtain ⟨hime, harm, hhalted, hstopped, hbug⟩ := control_of_withoutData_eq hu
  simp only [hime, harm, hhalted, hstopped, hbug]
  cases hc : controlRow i with
  | false =>
    have hdi : i ≠ .di := by rintro rfl; cases hc
    have hreti : i ≠ .reti := by rintro rfl; cases hc
    have hhalt : i ≠ .halt := by rintro rfl; cases hc
    simp [controlEffect_of_not_controlRow hc, not_isOneOf_stop i hc, hdi, hreti, hhalt]
  | true =>
    obtain rfl | rfl | rfl | ⟨pad, rfl⟩ | rfl := controlRow_cases hc
    · simp [controlEffect, show Claims.isOneOf .di [0x10] = false from rfl]
    · simp [controlEffect, show Claims.isOneOf .ei [0x10] = false from rfl]
    · have hstop : Claims.isOneOf .halt [0x10] = false := rfl
      simp only [controlEffect]
      split
      · next hbug =>
        replace hbug : (s.cfg.haltBug && !s.ime && s.pending != 0#8) = true := hbug
        simp [hstop, hbug]
      · next hbug =>
        replace hbug : ¬ (s.cfg.haltBug && !s.ime && s.pending != 0#8) = true := hbug
        simp [hstop, hbug]
    · simp [controlEffect, show Claims.isOneOf (.stop pad) [0x10] = true from rfl]
    · simp [controlEffect, show Claims.isOneOf .reti [0x10] = false from rfl]

/-! ## What no CPU step changes -/

/-- The state with all that a CPU step may change blanked: the PPU, the host's side and the parameters are left. -/
def State.outsideCpu (s : State) : State :=
  { s.withoutData with
    pc := 0, ime := false, eiArmed := false, halted := false, stopped := false, haltbug := false, fault := none
    cycles := 0 }

/-- A control effect stays inside the CPU and touches neither memory nor F. -/
theorem controlEffect_keeps (i : Instr) (s : State) :
    (controlEffect i s).outsideCpu = s.outsideCpu ∧ (controlEffect i s).mem = s.mem ∧ (controlEffect i s).f = s.f := by
  unfold controlEffect
  split
  case h_4 => split <;> exact ⟨rfl, rfl, rfl⟩
  all_goals exact ⟨rfl, rfl, rfl⟩

/-- An instruction, raising or not, leaves what is outside the CPU alone and keeps good data good. -/
theorem exec_keeps_outsideCpu {i : Instr} {s t : State} (h : exec i s = .next t) :
    t.outsideCpu = s.outsideCpu ∧ (DataOk s → DataOk t) := by
  obtain ⟨k, rfl⟩ | ⟨u, pc, cost, ⟨hu, hd⟩, rfl⟩ := (exec_actsAs i).cases h
  · exact ⟨rfl, id⟩
  · obtain ⟨ho, hm, hf⟩ := controlEffect_keeps i { s with haltbug := false }
    refine ⟨(congrArg State.outsideCpu hu).trans ho, fun ⟨hw, hl⟩ => hd ⟨?_, ?_⟩⟩
    · rwa [hm]
    · rwa [hf]

/-! ## The invariant through a CPU step -/

theorem dataOk_of_inv {s : State} (h : Inv s) : DataOk s := ⟨h.memCanonical, h.flagsLow⟩

/-- The invariant of a state that differs from a good one inside the CPU alone. -/
theorem inv_of_outsideCpu_eq {s t : State} (h : Inv s) (ho : t.outsideCpu = s.outsideCpu) (hd : DataOk t)
    (hb : t.haltbug = true → s.cfg.haltBug = true) (hs : (t.halted && t.stopped) = false) : Inv t := by
  have hdot : t.dot = s.dot := (congrArg State.dot ho :)
  have hly : t.ly = s.ly := (congrArg State.ly ho :)
  have hmode : t.mode = s.mode := (congrArg State.mode ho :)
  have hlines : t.lines = s.lines := (congrArg State.lines ho :)
  have hslot : t.frameSlot = s.frameSlot := (congrArg State.frameSlot ho :)
  have hcfg : t.cfg = s.cfg := (congrArg State.cfg ho :)
  obtain ⟨-, -, -, -, hdotRange, hlyRange, hmodeMatches, hcount, hfull, hslotFull⟩ := h
  obtain ⟨hw, hl⟩ := hd
  exact ⟨hw, hl, hcfg ▸ hb, hs, hdot ▸ hdotRange, hly ▸ hlyRange, by rw [hmode, hly, hdot, hmodeMatches],
    by rw [hlines, hly, hdot, hcount], hlines ▸ hfull, hslot ▸ hslotFull⟩

theorem inv_writeByte {s : State} (h : Inv s) (a : Word) (v : Byte) : Inv (s.writeByte a v) :=
  { h with memCanonical := State.writeByte_wf h.memCanonical a v }

/-- Recording a fault and nothing else keeps the invariant (60_exceptions.md rule R410). -/
theorem inv_fault {s : State} (h : Inv s) (r : Option FaultRecord) : Inv { s with fault := r } := { h with }

theorem inv_awake {s : State} (h : Inv s) : Inv s.awake := { h with oneSleep := rfl }

/-- A raise puts the state back, so a step keeps the invariant if it does when it completes. -/
theorem inv_restoreOnRaise {s u : State} (h : Inv s) (hu : u.fault = none → Inv u) : Inv (restoreOnRaise s u) := by
  unfold restoreOnRaise
  split
  · next hf => exact hu hf
  · exact inv_fault h _

/-- An instruction that completes from an awake state keeps the invariant: `HALT` and `STOP` each enter their own
sleeping state, and `HALT` sets the halt bug only under `HALT_BUG`. -/
theorem exec_keeps_inv {i : Instr} {s t : State} (h : Inv s) (ha : s.halted = false ∧ s.stopped = false)
    (hx : exec i s = .next t) (hf : t.fault = none) : Inv t := by
  obtain ⟨ho, hd⟩ := exec_keeps_outsideCpu hx
  obtain ⟨-, -, hhalted, hstopped, hbug⟩ := controlFlagsChange i s t hx hf
  refine inv_of_outsideCpu_eq h ho (hd (dataOk_of_inv h)) (fun hb => ?_) ?_
  · rw [hbug] at hb
    simp only [Bool.and_eq_true] at hb
    obtain ⟨⟨⟨-, hcfg⟩, -⟩, -⟩ := hb
    exact hcfg
  · rw [hhalted, hstopped, ha.1, ha.2]
    by_cases hi : i = .halt
    · subst hi
      rw [show Claims.isOneOf .halt [0x10] = false from rfl]
      simp
    · simp [hi]

/-- A dispatch keeps the invariant. -/
theorem dispatchInterrupt_keeps_inv {s t : State} (h : Inv s) (hx : dispatchInterrupt s = .next t) : Inv t := by
  rw [dispatchInterrupt_eq] at hx
  split at hx <;> cases hx
  · exact inv_fault h _
  · exact { inv_writeByte (inv_writeByte (inv_writeByte h _ _) _ _) _ _ with haltbugOnlyIf := nofun }

theorem cpuStep_keeps_inv {s t : State} (h : Inv s) (hs : cpuStep s = .next t) : Inv t := by
  obtain ⟨-, ⟨-, rfl⟩ | ⟨u, rfl, hu⟩⟩ := cpuStep_cases hs
  · exact { h with }
  · refine inv_restoreOnRaise h fun hf => ?_
    obtain ⟨-, -, hx⟩ | ⟨i, -, hx⟩ | ⟨k, -, rfl⟩ := hu
    · exact dispatchInterrupt_keeps_inv (inv_awake h) hx
    · exact exec_keeps_inv (inv_awake h) ⟨rfl, rfl⟩ hx hf
    · cases hf

/-! ## Mode and line count by position (65_ppu.md rules R451, R456) -/

theorem modeAt_vBlank {ly dot : Nat} (h : 144 ≤ ly) : modeAt ly dot = .vBlank := by simp [modeAt, h]

theorem modeAt_oamSearch_iff {ly dot : Nat} : modeAt ly dot = .oamSearch ↔ ly < 144 ∧ dot < 80 := by
  unfold modeAt
  split_ifs <;> simp <;> omega

theorem modeAt_pixelDrawing_iff {ly dot : Nat} : modeAt ly dot = .pixelDrawing ↔ ly < 144 ∧ 80 ≤ dot ∧ dot < 160 := by
  unfold modeAt
  split_ifs <;> simp <;> omega

theorem modeAt_hBlank_iff {ly dot : Nat} : modeAt ly dot = .hBlank ↔ ly < 144 ∧ 160 ≤ dot := by
  unfold modeAt
  split_ifs <;> simp <;> omega

theorem linesAt_vBlank {ly dot : Nat} (h : 144 ≤ ly) : linesAt ly dot = 0 := if_pos h

/-- Before a line is drawn the frame holds the lines above it (65_ppu.md rule R456). -/
theorem linesAt_oamSearch {ly dot : Nat} (hly : ly < 144) (hdot : dot < 80) : linesAt ly dot = ly := by
  rw [linesAt, if_neg (by omega), if_pos hdot]

/-- From dot 80 on it holds the line too (rule R456). -/
theorem linesAt_drawn {ly dot : Nat} (hly : ly < 144) (hdot : 80 ≤ dot) : linesAt ly dot = ly + 1 := by
  rw [linesAt, if_neg (by omega), if_neg (by omega)]

/-- Away from the two transitions inside a line, the next dot is in the same mode. -/
theorem modeAt_succ {ly dot : Nat} (hoam : ¬ (modeAt ly dot = .oamSearch ∧ dot = 79))
    (hdraw : ¬ (modeAt ly dot = .pixelDrawing ∧ dot = 159)) :
    modeAt ly (dot + 1) = modeAt ly dot ∧ linesAt ly (dot + 1) = linesAt ly dot := by
  rw [modeAt_oamSearch_iff] at hoam
  rw [modeAt_pixelDrawing_iff] at hdraw
  unfold modeAt linesAt
  by_cases hv : 144 ≤ ly
  · simp only [if_pos hv, and_self]
  · have h80 : dot + 1 < 80 ↔ dot < 80 := by omega
    have h160 : dot + 1 < 160 ↔ dot < 160 := by omega
    simp only [h80, h160, and_self]

/-! ## The invariant through the PPU's ticks -/

theorem composite_full (s : State) (ly : Nat) : Scanline.full (composite s ly) = true := by
  unfold composite Scanline.full
  split
  · rw [List.length_map, List.length_range]; rfl
  · rw [List.length_replicate]; rfl

/-- At the end of line 143 the lines are a whole frame. -/
theorem lines_full_of_lastLine {s : State} (h : Inv s) (hly : s.ly = 143) (hdot : 80 ≤ s.dot) :
    Frame.full s.lines = true := by
  have hlen : s.lines.length = 144 := by
    rw [h.linesCount, linesAt_drawn (by omega) hdot, hly]
  simp [Frame.full, hlen, h.linesFull]

/-- Entering VBlank offers a whole frame and empties the lines. -/
theorem enterVBlank_keeps_inv {s : State} (h : Inv s) (hly : s.ly = 143) (hdot : 80 ≤ s.dot) :
    Inv (enterVBlank { s with dot := 0 }) := by
  rw [enterVBlank_eq]
  have hly' : 144 < 154 := by decide
  have hdot' : 0 < 456 := by decide
  refine { h with
    memCanonical := State.writeByte_wf (s := { s with dot := 0 }) h.memCanonical _ _
    dotRange := hdot', lyRange := hly', modeMatches := rfl, linesCount := rfl, linesFull := rfl
    slotFull := fun fr hfr => ?_ }
  simp only at hfr
  split at hfr
  · split at hfr <;> cases hfr
    exact lines_full_of_lastLine h hly hdot
  · exact h.slotFull fr hfr

/-- The invariant at another position of the frame. -/
theorem inv_moved {s : State} (h : Inv s) {dot ly : Nat} {mode : PpuMode} {lines : Frame} (hdot : dot < 456)
    (hly : ly < 154) (hmode : mode = modeAt ly dot) (hcount : lines.length = linesAt ly dot)
    (hfull : lines.all Scanline.full = true) :
    Inv { s with dot := dot, ly := ly, mode := mode, lines := lines } :=
  { h with
    dotRange := hdot, lyRange := hly, modeMatches := hmode, linesCount := hcount, linesFull := hfull }

/-- The transitions of a tick: each gives the mode and the line count of the new position (65_ppu.md rules R451, R454,
R456). -/
theorem advanceDot_keeps_inv {s : State} (h : Inv s) : Inv (advanceDot s) := by
  have ⟨_, _, _, _, hdot, hly, hmode, hcount, hfull, _⟩ := h
  rcases advanceDot_cases s with ⟨hd, hl, hs⟩ | ⟨hd, hl, hs⟩ | ⟨hd, hl, hl', hs⟩ | ⟨hd, hl, hs⟩ | ⟨hd, hm, hs⟩ |
    ⟨hd, hm, hs⟩ | ⟨hd, hm, hm', hs⟩ <;> rw [hs]
  · refine inv_moved h (by omega) (by omega) (modeAt_oamSearch_iff.mpr (by omega)).symm ?_ hfull
    rw [hcount, linesAt_drawn (by omega) (by omega), linesAt_oamSearch (by omega) (by omega)]
  · exact enterVBlank_keeps_inv h hl (by omega)
  · refine inv_moved h (by omega) (by omega) ?_ ?_ hfull
    · rw [hmode, modeAt_vBlank (by omega), modeAt_vBlank (by omega)]
    · rw [hcount, linesAt_vBlank (by omega), linesAt_vBlank (by omega)]
  · refine inv_moved h (by omega) (by omega) (modeAt_oamSearch_iff.mpr (by omega)).symm ?_ hfull
    rw [hcount, linesAt_vBlank (by omega), linesAt_oamSearch (by omega) (by omega)]
  · rw [hmode, modeAt_oamSearch_iff] at hm
    refine inv_moved h (by omega) hly (modeAt_pixelDrawing_iff.mpr (by omega)).symm ?_ ?_
    · rw [List.length_append, List.length_singleton, hcount, linesAt_oamSearch (by omega) (by omega),
        linesAt_drawn (by omega) (by omega)]
    · rw [List.all_append, hfull]
      simp [composite_full]
  · rw [hmode, modeAt_pixelDrawing_iff] at hm
    refine inv_moved h (by omega) hly (modeAt_hBlank_iff.mpr (by omega)).symm ?_ hfull
    rw [hcount, linesAt_drawn (by omega) (by omega), linesAt_drawn (by omega) (by omega)]
  · rw [hmode] at hm hm'
    obtain ⟨hmode', hcount'⟩ := modeAt_succ hm hm'
    exact inv_moved h (by omega) hly (hmode.trans hmode'.symm) (hcount.trans hcount'.symm) hfull

theorem mirrorRegisters_keeps_inv {s : State} (h : Inv s) : Inv (mirrorRegisters s).st := by
  rw [mirrorRegisters_st_eq]
  exact inv_writeByte (inv_writeByte h _ _) _ _

theorem statInterruptCheck_keeps_inv {m : Mirrored} (h : Inv m.st) : Inv (statInterruptCheck m) := by
  rw [statInterruptCheck_eq]
  split
  · exact { inv_writeByte h _ _ with }
  · exact { h with }

theorem ppuTick_keeps_inv {s : State} (h : Inv s) : Inv (ppuTick s) :=
  statInterruptCheck_keeps_inv (mirrorRegisters_keeps_inv (advanceDot_keeps_inv h))

/-- Settles O49: the CPU step keeps the invariant, and so does each of the ticks after it. -/
theorem stepKeepsInvariant : Obligations.StepKeepsInvariant := by
  unfold Obligations.StepKeepsInvariant
  intro s t h hs
  obtain ⟨u, hu, rfl⟩ := step_cases hs
  have hinv := cpuStep_keeps_inv h hu
  unfold ticksAfter
  split
  · exact hinv
  · exact ppuTicks_keeps (P := Inv) (fun _ => ppuTick_keeps_inv) _ hinv

/-! ## The state right after reset -/

/-- Memory lists nothing at reset, so every byte reads as 70_reset_and_hazards.md rule R503 has it, or 0x00. -/
theorem reset_readByte (a : Word) : State.reset.readByte a = Memory.initialByte a.toNat := rfl

theorem initialByte_bootBytes : ∀ c ∈ Claims.bootBytes, Memory.initialByte c.1.toNat = c.2 :=
  List.map_inj_left.mp rfl

/-- Settles O46: the fields stand in the definition of the reset state, and memory reads as it does before any write. -/
theorem resetState : Obligations.ResetState := by
  unfold Obligations.ResetState
  refine ⟨rfl, rfl, rfl, rfl, rfl, rfl, rfl, rfl, rfl, rfl, rfl, rfl, rfl, rfl, rfl, rfl, rfl, rfl, rfl, rfl, rfl, rfl,
    rfl, fun c hc => ?_, ?_, ?_⟩
  · rw [reset_readByte, initialByte_bootBytes c hc]
  · rw [reset_readByte]
    decide
  · rw [reset_readByte]
    decide

/-- Settles O48: position 0 of the frame, no lines, an empty memory and an empty slot. -/
theorem resetMeetsInvariant : Obligations.ResetMeetsInvariant where
  memCanonical := rfl
  flagsLow := rfl
  haltbugOnlyIf := nofun
  oneSleep := rfl
  dotRange := by decide
  lyRange := by decide
  modeMatches := rfl
  linesCount := rfl
  linesFull := rfl
  slotFull := nofun

/-! ## The registers an instruction writes -/

/-- The registers outside the list are as before, and so is SP unless it is written (10_state.md rule R38). -/
def WritesOnly (ws : List R7) (sp : Bool) (s t : State) : Prop :=
  (∀ r, r ∉ ws → t.reg r = s.reg r) ∧ (sp = false → t.sp = s.sp)

section
variable {ws ws' : List R7} {sp : Bool} {s t u : State}

theorem writesOnly_of_eq (hr : ∀ r, t.reg r = s.reg r) (hsp : t.sp = s.sp) : WritesOnly ws sp s t :=
  ⟨fun r _ => hr r, fun _ => hsp⟩

theorem WritesOnly.rfl : WritesOnly ws sp s s := writesOnly_of_eq (fun _ => Eq.refl _) (Eq.refl _)

theorem WritesOnly.trans (h : WritesOnly ws sp s t) (h' : WritesOnly ws' sp t u) : WritesOnly (ws ++ ws') sp s u := by
  refine ⟨fun r hr => ?_, fun hsp => (h'.2 hsp).trans (h.2 hsp)⟩
  rw [List.mem_append, not_or] at hr
  exact (h'.1 r hr.2).trans (h.1 r hr.1)

/-- Flags are no register of the list. -/
theorem WritesOnly.setFlags (h : WritesOnly ws sp s t) (z n hf c : Bool) : WritesOnly ws sp s (t.setFlags z n hf c) := h

theorem writesOnly_writeByte (s : State) (a : Word) (v : Byte) : WritesOnly ws sp s (s.writeByte a v) :=
  writesOnly_of_eq (fun _ => Eq.refl _) (Eq.refl _)

theorem writesOnly_setReg (s : State) (r : R7) (v : Byte) : WritesOnly [r] sp s (s.setReg r v) :=
  ⟨fun q hq => State.reg_setReg_other s r q v fun h => hq (List.mem_singleton.mpr h), fun _ => State.setReg_sp s r v⟩

theorem writesOnly_setOperand (s : State) (o : Operand8) (v : Byte) :
    WritesOnly (Claims.fieldReg (Claims.operandCode o)) sp s (s.setOperand o v) := by
  cases o with
  | reg r =>
    have hr : Claims.fieldReg (Claims.operandCode (.reg r)) = [r] := by cases r <;> rfl
    rw [hr]
    exact writesOnly_setReg s r v
  | atHL => exact writesOnly_writeByte s s.hl v

theorem writesOnly_setHL (s : State) (v : Word) : WritesOnly [.h, .l] sp s (s.setHL v) :=
  (writesOnly_setReg s .h (hiByte v)).trans (writesOnly_setReg (s.setReg .h (hiByte v)) .l (loByte v))

theorem writesOnly_setPair (s : State) {p : RR} (v : Word) (hsp : p = .sp → sp = true) :
    WritesOnly (Claims.pairRegs (Claims.pairCode p)) sp s (s.setPair p v) := by
  cases p with
  | bc => exact (writesOnly_setReg s .b (hiByte v)).trans (writesOnly_setReg (s.setReg .b (hiByte v)) .c (loByte v))
  | de => exact (writesOnly_setReg s .d (hiByte v)).trans (writesOnly_setReg (s.setReg .d (hiByte v)) .e (loByte v))
  | hl => exact writesOnly_setHL s v
  | sp => exact ⟨fun _ _ => Eq.refl _, fun h => by simp [hsp] at h⟩

/-! The operations that can raise; the stack's move SP. -/

theorem writesOnly_writeWordUp {a v : Word} (h : s.writeWordUp a v = .ok t) : WritesOnly ws sp s t := by
  rw [State.writeWordUp_eq] at h
  split at h <;> cases h
  exact writesOnly_of_eq (fun _ => Eq.refl _) (Eq.refl _)

theorem writesOnly_push16 {v : Word} (h : s.push16 v = .ok t) : WritesOnly ws true s t := by
  rw [State.push16_eq] at h
  split at h <;> cases h
  exact ⟨fun _ _ => Eq.refl _, nofun⟩

theorem writesOnly_pop16 {v : Word} (h : s.pop16 = .ok (v, t)) : WritesOnly ws true s t := by
  rw [State.pop16_eq] at h
  split at h <;> cases h
  exact ⟨fun _ _ => Eq.refl _, nofun⟩

theorem writesOnly_callRule {n target : Word} {x : Effect} (h : callRule s n target = .ok x) :
    WritesOnly ws true s x.st := by
  simp only [callRule] at h
  split at h <;> cases h
  exact writesOnly_push16 ‹_›

theorem writesOnly_retRule {x : Effect} (h : retRule s = .ok x) : WritesOnly ws true s x.st := by
  simp only [retRule] at h
  split at h <;> cases h
  exact writesOnly_pop16 ‹_›

theorem writesOnly_returnFromInterrupt {x : Effect} (h : returnFromInterrupt s = .ok x) :
    WritesOnly ws true s x.st := by
  simp only [returnFromInterrupt] at h
  split at h <;> cases h
  exact (writesOnly_pop16 ‹_› :)

end

/-- The registers a `POP` loads, but F (41_load16.md rules R226, R227). -/
def stackPairRegs : QQ → List R7
  | .bc => [.b, .c]
  | .de => [.d, .e]
  | .hl => [.h, .l]
  | .af => [.a]

theorem writesOnly_setStackPair {sp : Bool} (s : State) (q : QQ) (v : Word) :
    WritesOnly (stackPairRegs q) sp s (s.setStackPair q v) := by
  cases q with
  | bc => exact writesOnly_setPair s (p := .bc) v nofun
  | de => exact writesOnly_setPair s (p := .de) v nofun
  | hl => exact writesOnly_setHL s v
  | af => exact writesOnly_setReg s .a (hiByte v)

/-- The register an ALU operation writes: `CP` writes none (42_alu8.md rules R251 to R253). -/
def aluRegs : AluOp → List R7
  | .cp => []
  | _ => [.a]

theorem writesOnly_aluStep {sp : Bool} (op : AluOp) (s : State) (v : Byte) :
    WritesOnly (aluRegs op) sp s { s with a := (aluCompute op s.a v s.flagC).a } := by
  cases op with
  | cp => exact .rfl
  | _ => exact writesOnly_setReg s .a _

/-! The listed registers of the rows with operand fields. -/

theorem writtenRegs_ld (d r : Operand8) (h : d ≠ .atHL ∨ r ≠ .atHL) :
    Claims.writtenRegs (Row.ld d r) = Claims.fieldReg (Claims.operandCode d) := by
  rcases d with q | _ <;> rcases r with r | _
  · cases q <;> cases r <;> rfl
  · cases q <;> rfl
  · cases r <;> rfl
  · simp at h

theorem isOneOf_congr {i j : Instr} (h : i.spec = j.spec) (ops : List Nat) :
    Claims.isOneOf i ops = Claims.isOneOf j ops := by
  unfold Claims.isOneOf Claims.mainOpcode
  rw [h]

/-- The list is read off the opcode, so an immediate does not matter. -/
theorem writtenRegs_congr {i j : Instr} (h : i.spec = j.spec) : Claims.writtenRegs i = Claims.writtenRegs j := by
  unfold Claims.writtenRegs Claims.cbWrites
  rw [h, isOneOf_congr h, isOneOf_congr h, isOneOf_congr h, isOneOf_congr h]

theorem writtenRegs_ldImm (o : Operand8) (n8 : Byte) :
    Claims.writtenRegs (Row.ldImm o n8) = Claims.fieldReg (Claims.operandCode o) := by
  have hspec : (Row.ldImm o n8).spec = (Row.ldImm o 0).spec := by
    rcases o with q | _
    · cases q <;> rfl
    · rfl
  rw [writtenRegs_congr hspec]
  rcases o with q | _
  · cases q <;> rfl
  · rfl

theorem writtenRegs_inc (o : Operand8) :
    Claims.writtenRegs (Row.inc o) = Claims.fieldReg (Claims.operandCode o) := by
  rcases o with q | _
  · cases q <;> rfl
  · rfl

theorem writtenRegs_dec (o : Operand8) :
    Claims.writtenRegs (Row.dec o) = Claims.fieldReg (Claims.operandCode o) := by
  rcases o with q | _
  · cases q <;> rfl
  · rfl

theorem writtenRegs_alu (op : AluOp) (o : Operand8) : Claims.writtenRegs (Row.alu op o) = aluRegs op := by
  rcases o with q | _
  · cases op <;> cases q <;> rfl
  · cases op <;> rfl

theorem writtenRegs_aluImm (op : AluOp) (n8 : Byte) : Claims.writtenRegs (Row.aluImm op n8) = aluRegs op := by
  have hspec : (Row.aluImm op n8).spec = (Row.aluImm op 0).spec := by cases op <;> rfl
  rw [writtenRegs_congr hspec]
  cases op <;> rfl

theorem writtenRegs_shift (op : ShiftOp) (o : Operand8) :
    Claims.writtenRegs (Row.shift op o) = Claims.fieldReg (Claims.operandCode o) := by
  rcases o with q | _
  · cases op <;> cases q <;> rfl
  · cases op <;> rfl

theorem writtenRegs_res (b : Fin 8) (o : Operand8) :
    Claims.writtenRegs (Row.res b o) = Claims.fieldReg (Claims.operandCode o) := by
  revert b
  rcases o with q | _
  · cases q <;> exact forall_bit ⟨rfl, rfl, rfl, rfl, rfl, rfl, rfl, rfl⟩
  · exact forall_bit ⟨rfl, rfl, rfl, rfl, rfl, rfl, rfl, rfl⟩

theorem writtenRegs_set (b : Fin 8) (o : Operand8) :
    Claims.writtenRegs (Row.set b o) = Claims.fieldReg (Claims.operandCode o) := by
  revert b
  rcases o with q | _
  · cases q <;> exact forall_bit ⟨rfl, rfl, rfl, rfl, rfl, rfl, rfl, rfl⟩
  · exact forall_bit ⟨rfl, rfl, rfl, rfl, rfl, rfl, rfl, rfl⟩

theorem writtenRegs_ldPair (p : RR) (m1 m2 : Byte) :
    Claims.writtenRegs (Row.ldPair p m1 m2) = Claims.pairRegs (Claims.pairCode p) := by
  have hspec : (Row.ldPair p m1 m2).spec = (Row.ldPair p 0 0).spec := by cases p <;> rfl
  rw [writtenRegs_congr hspec]
  cases p <;> rfl

theorem writtenRegs_incPair (p : RR) :
    Claims.writtenRegs (Row.incPair p) = Claims.pairRegs (Claims.pairCode p) := by cases p <;> rfl

theorem writtenRegs_decPair (p : RR) :
    Claims.writtenRegs (Row.decPair p) = Claims.pairRegs (Claims.pairCode p) := by cases p <;> rfl

theorem writtenRegs_addHL (p : RR) : Claims.writtenRegs (Row.addHL p) = [.h, .l] := by cases p <;> rfl

theorem writtenRegs_pop (q : QQ) : Claims.writtenRegs (Row.pop q) = stackPairRegs q := by cases q <;> rfl

/-! The rows that move the stack pointer. -/

theorem writesSP_push (q : QQ) (f : Byte) : Claims.writesSP (Row.push q) f = true := by cases q <;> rfl

theorem writesSP_pop (q : QQ) (f : Byte) : Claims.writesSP (Row.pop q) f = true := by cases q <;> rfl

theorem writesSP_rst (k : Fin 8) (f : Byte) : Claims.writesSP (Row.rst k) f = true := by
  revert k
  exact forall_bit ⟨rfl, rfl, rfl, rfl, rfl, rfl, rfl, rfl⟩

theorem writesSP_callIf (cc : Cond) (m1 m2 f : Byte) :
    Claims.writesSP (Row.callIf cc m1 m2) f = Claims.holds cc f := by
  have ht : Claims.taken (Row.callIf cc m1 m2) f = Claims.holds cc f := by
    have htr : Claims.transfers (Row.callIf cc m1 m2) = true := by cases cc <;> rfl
    rw [← transfers_callIf cc m1 m2 f, htr, Bool.true_and]
  rw [Claims.writesSP, Claims.pushes, Claims.pops, ht]
  cases cc <;> exact Bool.or_false _

theorem writesSP_retIf (cc : Cond) (f : Byte) : Claims.writesSP (Row.retIf cc) f = Claims.holds cc f := by
  cases cc <;> rfl

/-- Raising or not, a well-formed instruction writes no register but those listed for it. -/
def WritesListed (i : Instr) : Prop :=
  i.wf = true → ∀ s t : State, exec i s = .next t →
    WritesOnly (Claims.writtenRegs i) (Claims.writesSP i s.f) s t

theorem writesListed_of_rule {i : Instr} {len cost notTaken : Nat} {fl : FlagDescriptor} {ws : List R7}
    {rule : State → Word → Except FaultKind Effect} (hr : HasRow i len fl (instrStep len cost notTaken rule))
    (hw : Claims.writtenRegs i = ws)
    (h : ∀ s n x, rule s n = .ok x → WritesOnly ws (Claims.writesSP i s.f) s x.st) : WritesListed i := by
  obtain ⟨-, -, hx⟩ := hr
  subst hw
  intro _ s t hn
  rw [hx] at hn
  obtain ⟨k, -, hk⟩ | ⟨x, hrule, ht⟩ := instrStep_cases hn
  · cases hk
    exact .rfl
  · cases ht
    exact (h { s with haltbug := false } _ x hrule :)

theorem writesListed_of_plain {i : Instr} {len cost : Nat} {fl : FlagDescriptor} {ws : List R7} {f : State → State}
    (hr : HasRow i len fl (plainStep len cost f)) (hw : Claims.writtenRegs i = ws)
    (h : ∀ s, WritesOnly ws (Claims.writesSP i s.f) s (f s)) : WritesListed i :=
  writesListed_of_rule hr hw fun s _ _ hx => by cases hx; exact h s

theorem writesListed_of_conditional {i : Instr} {cc : Cond} {len cost notTaken : Nat}
    {body : State → Word → Except FaultKind Effect}
    (hr : HasRow i len flagsKKKK (instrStep len cost notTaken fun s n =>
      if s.cond cc then body s n else .ok { st := s, taken := false }))
    (h : ∀ s n x, Claims.holds cc s.f = true → body s n = .ok x →
      WritesOnly (Claims.writtenRegs i) (Claims.writesSP i s.f) s x.st) : WritesListed i :=
  writesListed_of_rule hr rfl fun s n x hx => by
    obtain ⟨hc, hb⟩ | ⟨-, rfl⟩ := conditional_cases hx
    · exact h s n x hc hb
    · exact .rfl

/-- The families one by one. -/
theorem writesListed : ∀ i : Instr, WritesListed i := by
  apply Instr.byFamily
  case prefixCB => exact fun _ => nofun
  case illegal => exact fun i hi => writesListed_of_rule (hasRow_illegal hi) rfl fun _ _ _ hx => by cases hx
  case ld =>
    exact fun d r h => writesListed_of_plain (hasRow_ld d r h) (writtenRegs_ld d r h) fun s =>
      writesOnly_setOperand s d _
  case ldImm =>
    exact fun o n8 => writesListed_of_plain (hasRow_ldImm o n8) (writtenRegs_ldImm o n8) fun s =>
      writesOnly_setOperand s o n8
  case alu =>
    exact fun op o => writesListed_of_plain (hasRow_alu op o) (writtenRegs_alu op o) fun s =>
      (writesOnly_aluStep op s _).setFlags _ _ _ _
  case aluImm =>
    exact fun op n8 => writesListed_of_plain (hasRow_aluImm op n8) (writtenRegs_aluImm op n8) fun s =>
      (writesOnly_aluStep op s _).setFlags _ _ _ _
  case inc =>
    exact fun o => writesListed_of_plain (hasRow_inc o) (writtenRegs_inc o) fun s =>
      (writesOnly_setOperand s o _).setFlags _ _ _ _
  case dec =>
    exact fun o => writesListed_of_plain (hasRow_dec o) (writtenRegs_dec o) fun s =>
      (writesOnly_setOperand s o _).setFlags _ _ _ _
  case shift =>
    exact fun op o => writesListed_of_plain (hasRow_shift op o) (writtenRegs_shift op o) fun s =>
      (writesOnly_setOperand s o _).setFlags _ _ _ _
  case bit => exact fun b o => writesListed_of_plain (hasRow_bit b o) rfl fun _ => .setFlags .rfl _ _ _ _
  case res =>
    exact fun b o => writesListed_of_plain (hasRow_res b o) (writtenRegs_res b o) fun s => writesOnly_setOperand s o _
  case set =>
    exact fun b o => writesListed_of_plain (hasRow_set b o) (writtenRegs_set b o) fun s => writesOnly_setOperand s o _
  case ldPair =>
    exact fun p m1 m2 => writesListed_of_plain (hasRow_ldPair p m1 m2) (writtenRegs_ldPair p m1 m2) fun s =>
      writesOnly_setPair s _ fun hp => by subst hp; rfl
  case incPair =>
    exact fun p => writesListed_of_plain (hasRow_incPair p) (writtenRegs_incPair p) fun s =>
      writesOnly_setPair s _ fun hp => by subst hp; rfl
  case decPair =>
    exact fun p => writesListed_of_plain (hasRow_decPair p) (writtenRegs_decPair p) fun s =>
      writesOnly_setPair s _ fun hp => by subst hp; rfl
  case addHL =>
    exact fun p => writesListed_of_plain (hasRow_addHL p) (writtenRegs_addHL p) fun s =>
      (writesOnly_setHL s _).setFlags _ _ _ _
  case push =>
    refine fun q => writesListed_of_rule (hasRow_push q) rfl fun s n x hx => ?_
    rw [writesSP_push]
    split at hx <;> cases hx
    exact writesOnly_push16 ‹_›
  case pop =>
    refine fun q => writesListed_of_rule (hasRow_pop q) (writtenRegs_pop q) fun s n x hx => ?_
    rw [writesSP_pop]
    split at hx <;> cases hx
    exact (writesOnly_pop16 (ws := []) ‹_›).trans (writesOnly_setStackPair _ q _)
  case ldAtA16SP =>
    refine fun m1 m2 => writesListed_of_rule (hasRow_ldAtA16SP m1 m2) rfl fun s n x hx => ?_
    split at hx <;> cases hx
    exact writesOnly_writeWordUp ‹_›
  case jpIf =>
    exact fun cc m1 m2 => writesListed_of_conditional (hasRow_jpIf cc m1 m2) fun _ _ _ _ hx => by cases hx; exact .rfl
  case jrIf =>
    exact fun cc n8 => writesListed_of_conditional (hasRow_jrIf cc n8) fun _ _ _ _ hx => by cases hx; exact .rfl
  case callIf =>
    refine fun cc m1 m2 => writesListed_of_conditional (hasRow_callIf cc m1 m2) fun s n x hc hx => ?_
    rw [writesSP_callIf, hc]
    exact writesOnly_callRule hx
  case retIf =>
    refine fun cc => writesListed_of_conditional (hasRow_retIf cc) fun s n x hc hx => ?_
    rw [writesSP_retIf, hc]
    exact writesOnly_retRule hx
  case rst =>
    refine fun k => writesListed_of_rule (hasRow_rst k) rfl fun s n x hx => ?_
    rw [writesSP_rst]
    split at hx
    · exact writesOnly_callRule hx
    · cases hx
  case callA16 =>
    exact fun m1 m2 => writesListed_of_rule (hasRow_callA16 m1 m2) rfl fun _ _ _ hx => writesOnly_callRule hx
  case ret => exact writesListed_of_rule hasRow_ret rfl fun _ _ _ hx => writesOnly_retRule hx
  case reti => exact writesListed_of_rule hasRow_reti rfl fun _ _ _ hx => writesOnly_returnFromInterrupt hx
  case jpA16 => exact fun m1 m2 => writesListed_of_rule (hasRow_jpA16 m1 m2) rfl fun _ _ _ hx => by cases hx; exact .rfl
  case jrR8 => exact fun n8 => writesListed_of_rule (hasRow_jrR8 n8) rfl fun _ _ _ hx => by cases hx; exact .rfl
  case jpHL => exact writesListed_of_rule hasRow_jpHL rfl fun _ _ _ hx => by cases hx; exact .rfl
  case ei => exact writesListed_of_rule hasRow_ei rfl fun _ _ _ hx => by cases hx; exact .rfl
  case nop => exact writesListed_of_plain hasRow_nop rfl fun _ => .rfl
  case di => exact writesListed_of_plain hasRow_di rfl fun _ => .rfl
  case stop => exact fun pad => writesListed_of_plain (hasRow_stop pad) rfl fun _ => .rfl
  case halt => exact writesListed_of_plain hasRow_halt rfl fun _ => by split <;> exact .rfl
  case scf => exact writesListed_of_plain hasRow_scf rfl fun _ => .setFlags .rfl _ _ _ _
  case ccf => exact writesListed_of_plain hasRow_ccf rfl fun _ => .setFlags .rfl _ _ _ _
  case rlca => exact writesListed_of_plain hasRow_rlca rfl fun s => (writesOnly_setReg s .a _).setFlags _ _ _ _
  case rrca => exact writesListed_of_plain hasRow_rrca rfl fun s => (writesOnly_setReg s .a _).setFlags _ _ _ _
  case rla => exact writesListed_of_plain hasRow_rla rfl fun s => (writesOnly_setReg s .a _).setFlags _ _ _ _
  case rra => exact writesListed_of_plain hasRow_rra rfl fun s => (writesOnly_setReg s .a _).setFlags _ _ _ _
  case daa => exact writesListed_of_plain hasRow_daa rfl fun s => (writesOnly_setReg s .a _).setFlags _ _ _ _
  case cpl => exact writesListed_of_plain hasRow_cpl rfl fun s => (writesOnly_setReg s .a _).setFlags _ _ _ _
  case addSPR8 =>
    exact fun n8 => writesListed_of_plain (hasRow_addSPR8 n8) (writtenRegs_congr (j := .addSPR8 0) rfl) fun s =>
      (writesOnly_setPair s (p := .sp) _ fun _ => rfl).setFlags _ _ _ _
  case ldSPHL => exact writesListed_of_plain hasRow_ldSPHL rfl fun s => writesOnly_setPair s (p := .sp) _ fun _ => rfl
  case ldHLSPR8 =>
    exact fun n8 => writesListed_of_plain (hasRow_ldHLSPR8 n8) (writtenRegs_congr (j := .ldHLSPR8 0) rfl) fun s =>
      writesOnly_setHL (s.setFlags _ _ _ _) _
  case ldAtHLIncA =>
    exact writesListed_of_plain hasRow_ldAtHLIncA rfl fun s => writesOnly_setHL (s.writeByte s.hl s.a) _
  case ldAtHLDecA =>
    exact writesListed_of_plain hasRow_ldAtHLDecA rfl fun s => writesOnly_setHL (s.writeByte s.hl s.a) _
  case ldAAtHLInc =>
    exact writesListed_of_plain hasRow_ldAAtHLInc rfl fun s => (writesOnly_setReg s .a _).trans (writesOnly_setHL _ _)
  case ldAAtHLDec =>
    exact writesListed_of_plain hasRow_ldAAtHLDec rfl fun s => (writesOnly_setReg s .a _).trans (writesOnly_setHL _ _)
  case ldAtBCA => exact writesListed_of_plain hasRow_ldAtBCA rfl fun s => writesOnly_writeByte s _ _
  case ldAtDEA => exact writesListed_of_plain hasRow_ldAtDEA rfl fun s => writesOnly_writeByte s _ _
  case ldAtCA => exact writesListed_of_plain hasRow_ldAtCA rfl fun s => writesOnly_writeByte s _ _
  case ldhAtA8A => exact fun n8 => writesListed_of_plain (hasRow_ldhAtA8A n8) rfl fun s => writesOnly_writeByte s _ _
  case ldAtA16A =>
    exact fun m1 m2 => writesListed_of_plain (hasRow_ldAtA16A m1 m2) rfl fun s => writesOnly_writeByte s _ _
  case ldAAtBC => exact writesListed_of_plain hasRow_ldAAtBC rfl fun s => writesOnly_setReg s .a _
  case ldAAtDE => exact writesListed_of_plain hasRow_ldAAtDE rfl fun s => writesOnly_setReg s .a _
  case ldAAtC => exact writesListed_of_plain hasRow_ldAAtC rfl fun s => writesOnly_setReg s .a _
  case ldhAAtA8 =>
    exact fun n8 => writesListed_of_plain (hasRow_ldhAAtA8 n8) (writtenRegs_congr (j := .ldhAAtA8 0) rfl) fun s =>
      writesOnly_setReg s .a _
  case ldAAtA16 =>
    exact fun m1 m2 => writesListed_of_plain (hasRow_ldAAtA16 m1 m2) (writtenRegs_congr (j := .ldAAtA16 0 0) rfl)
      fun s => writesOnly_setReg s .a _

/-- Settles O17: a rule writes the registers its opcode names, and SP where it moves the stack or names SP. -/
theorem registersFrame : Obligations.RegistersFrame := by
  unfold Obligations.RegistersFrame
  exact fun i s t hwf h => writesListed i hwf s t h

end Sys2Proof.Machine

/-! PROOFS. Memory (20_memory.md): what a word access does in terms of byte accesses (O28), and which bytes an
instruction stores (O18). -/

namespace Sys2Proof.Machine

/-! ## Words as two bytes -/

/-- Both say how `WORD_ORDER` joins the bytes at an address and above it (20_memory.md rule R82). -/
theorem wordOfBytes_eq_wordAt (s : State) (a : Word) :
    wordOfBytes s.cfg.wordOrder (s.readByte a) (s.readByte (a + 1)) = Claims.wordAt s a := by
  unfold wordOfBytes Claims.wordAt
  cases s.cfg.wordOrder <;> rfl

theorem State.readWord_of_ne {a : Word} (s : State) (h : a ≠ 0xFFFF#16) : s.readWord a = .ok (Claims.wordAt s a) := by
  rw [State.readWord_eq, if_neg h, wordOfBytes_eq_wordAt]

/-- A word write begun at the lower address, as byte writes (rules R84, R88). -/
theorem State.writeWordUp_of_ne {a : Word} (s : State) (v : Word) (h : a ≠ 0xFFFF#16) :
    s.writeWordUp a v = .ok (s.writeBytes
      [(a, lowerByte s.cfg.wordOrder v), (a + 1, upperByte s.cfg.wordOrder v)]) := by
  rw [State.writeWordUp_eq, if_neg h]
  rfl

/-- A word write begun at the higher address, as byte writes (rules R84, R88). -/
theorem State.writeWordDown_of_ne {a : Word} (s : State) (v : Word) (h : a ≠ 0xFFFF#16) :
    s.writeWordDown a v = .ok (s.writeBytes
      [(a + 1, upperByte s.cfg.wordOrder v), (a, lowerByte s.cfg.wordOrder v)]) := by
  rw [State.writeWordDown_eq, if_neg h]
  rfl

/-- On the default `BUS` a word write may begin at either address. -/
theorem State.writeWordDown_eq_writeWordUp {s : State} (hb : s.cfg.bus = .flat) (hw : Memory.wf s.mem = true)
    (a v : Word) : s.writeWordDown a v = s.writeWordUp a v := by
  rw [State.writeWordDown_eq, State.writeWordUp_eq, State.writeByte_comm hb hw (succ_ne a)]

/-- On the default `BUS` the two bytes of a word read back where its write put them. -/
theorem State.readByte_writeBytes_word {s : State} (hb : s.cfg.bus = .flat) (hw : Memory.wf s.mem = true) (a : Word)
    (x y : Byte) :
    (s.writeBytes [(a, x), (a + 1, y)]).readByte a = x ∧
      (s.writeBytes [(a, x), (a + 1, y)]).readByte (a + 1) = y := by
  have hn : ([(a, x), (a + 1, y)].map Prod.fst).Nodup := by simp
  exact ⟨State.readByte_writeBytes_mem hb hw hn (c := (a, x)) (by simp),
    State.readByte_writeBytes_mem hb hw hn (c := (a + 1, y)) (by simp)⟩

/-- Settles O28: a word access is two byte accesses below 0xFFFF, and on the default `BUS` what bytes read back after
writes to other bytes says what words read back. -/
theorem wordAccess : Obligations.WordAccess := by
  unfold Obligations.WordAccess
  intro s a v
  refine ⟨fun _ => rfl, fun ha => ⟨s.readWord_of_ne ha, s.writeWordUp_of_ne v ha, s.writeWordDown_of_ne v ha⟩,
    fun hb hw x => ⟨State.readByte_writeByte_same hb hw a x, fun _ => State.readByte_writeByte_other hb x⟩,
    fun hb hw ha => ?_, fun ha => ?_⟩
  · have hup := s.writeWordUp_of_ne v ha
    obtain ⟨hlower, hupper⟩ :=
      State.readByte_writeBytes_word hb hw a (lowerByte s.cfg.wordOrder v) (upperByte s.cfg.wordOrder v)
    refine ⟨_, hup, (State.writeWordDown_eq_writeWordUp hb hw a v).trans hup, ?_, fun ho => ?_, fun ho => ?_,
      fun b h1 h2 => State.readByte_writeBytes_other _ hb fun hm => ?_, State.writeBytes_wf _ hw⟩
    · rw [State.readWord_eq, if_neg ha, hlower, hupper]
      exact congrArg Except.ok (wordOfBytes_lower_upper s.cfg.wordOrder v)
    · rw [hlower, hupper, ho]
      exact ⟨loByte_toNat v, hiByte_toNat v⟩
    · rw [hlower, hupper, ho]
      exact ⟨hiByte_toNat v, loByte_toNat v⟩
    · exact (List.mem_pair.mp hm).elim h1 h2
  · rw [State.readWord_eq, State.writeWordUp_eq, State.writeWordDown_eq, if_pos ha, if_pos ha, if_pos ha]
    exact ⟨rfl, rfl, rfl⟩

/-! ## The bytes an instruction stores -/

/-- What is behind `BUS` is what byte writes at these addresses, in this order, leave there (20_memory.md rule R88). -/
def StoresTo (addrs : List Word) (s t : State) : Prop :=
  ∃ cells : List (Word × Byte), cells.map Prod.fst = addrs ∧
    t.mem = (s.writeBytes cells).mem ∧ t.device = (s.writeBytes cells).device

section
variable {addrs : List Word} {s t : State}

theorem storesTo_of_eq (hm : t.mem = s.mem) (hd : t.device = s.device) : StoresTo [] s t := ⟨[], rfl, hm, hd⟩

theorem StoresTo.rfl : StoresTo [] s s := storesTo_of_eq (Eq.refl _) (Eq.refl _)

theorem StoresTo.setFlags (h : StoresTo addrs s t) (z n hf c : Bool) : StoresTo addrs s (t.setFlags z n hf c) := h

theorem StoresTo.setHL (h : StoresTo addrs s t) (v : Word) : StoresTo addrs s (t.setHL v) := h

theorem storesTo_setReg (s : State) (r : R7) (v : Byte) : StoresTo [] s (s.setReg r v) :=
  storesTo_of_eq (State.setReg_mem s r v) (State.setReg_device s r v)

/-- A pop loads registers alone. -/
theorem storesTo_setStackPair (h : StoresTo addrs s t) (q : QQ) (v : Word) : StoresTo addrs s (t.setStackPair q v) := by
  cases q <;> exact h

theorem storesTo_writeByte (s : State) (a : Word) (v : Byte) : StoresTo [a] s (s.writeByte a v) :=
  ⟨[(a, v)], rfl, rfl, rfl⟩

/-! The operations that can raise; a pop only reads. -/

theorem storesTo_writeWordUp {a v : Word} (h : s.writeWordUp a v = .ok t) : StoresTo [a, a + 1] s t := by
  rw [State.writeWordUp_eq] at h
  split at h <;> cases h
  exact ⟨[(a, _), (a + 1, _)], rfl, rfl, rfl⟩

theorem storesTo_push16 {v : Word} (h : s.push16 v = .ok t) : StoresTo [s.sp - 1, s.sp - 2] s t := by
  rw [State.push16_eq] at h
  split at h <;> cases h
  exact ⟨[(s.sp - 1, _), (s.sp - 2, _)], rfl, rfl, rfl⟩

theorem storesTo_pop16 {v : Word} (h : s.pop16 = .ok (v, t)) : StoresTo [] s t := by
  rw [State.pop16_eq] at h
  split at h <;> cases h
  exact storesTo_of_eq rfl rfl

theorem storesTo_callRule {n target : Word} {x : Effect} (h : callRule s n target = .ok x) :
    StoresTo [s.sp - 1, s.sp - 2] s x.st := by
  simp only [callRule] at h
  split at h <;> cases h
  exact storesTo_push16 ‹_›

theorem storesTo_retRule {x : Effect} (h : retRule s = .ok x) : StoresTo [] s x.st := by
  simp only [retRule] at h
  split at h <;> cases h
  exact storesTo_pop16 ‹_›

theorem storesTo_returnFromInterrupt {x : Effect} (h : returnFromInterrupt s = .ok x) : StoresTo [] s x.st := by
  simp only [returnFromInterrupt] at h
  split at h <;> cases h
  exact (storesTo_pop16 ‹_› :)

end

/-- The address a write of an r8 operand stores to: HL, or none for a register (30_encoding.md rule R115). -/
def operandStores (o : Operand8) (s : State) : List Word :=
  match o with
  | .reg _ => []
  | .atHL => [s.hl]

theorem storesTo_setOperand (s : State) (o : Operand8) (v : Byte) :
    StoresTo (operandStores o s) s (s.setOperand o v) := by
  cases o with
  | reg r => exact storesTo_setReg s r v
  | atHL => exact storesTo_writeByte s s.hl v

/-! The listed addresses of the rows with operand fields. -/

theorem stores_ld (d r : Operand8) (h : d ≠ .atHL ∨ r ≠ .atHL) (s : State) :
    Claims.stores (Row.ld d r) s = operandStores d s := by
  rcases d with q | _ <;> rcases r with r | _
  · cases q <;> cases r <;> rfl
  · cases q <;> rfl
  · cases r <;> rfl
  · simp at h

theorem stores_ldImm (o : Operand8) (n8 : Byte) (s : State) :
    Claims.stores (Row.ldImm o n8) s = operandStores o s := by
  rcases o with q | _
  · cases q <;> rfl
  · rfl

theorem stores_inc (o : Operand8) (s : State) : Claims.stores (Row.inc o) s = operandStores o s := by
  rcases o with q | _
  · cases q <;> rfl
  · rfl

theorem stores_dec (o : Operand8) (s : State) : Claims.stores (Row.dec o) s = operandStores o s := by
  rcases o with q | _
  · cases q <;> rfl
  · rfl

theorem stores_alu (op : AluOp) (o : Operand8) (s : State) : Claims.stores (Row.alu op o) s = [] := by
  rcases o with q | _
  · cases op <;> cases q <;> rfl
  · cases op <;> rfl

theorem stores_aluImm (op : AluOp) (n8 : Byte) (s : State) : Claims.stores (Row.aluImm op n8) s = [] := by
  cases op <;> rfl

theorem stores_shift (op : ShiftOp) (o : Operand8) (s : State) :
    Claims.stores (Row.shift op o) s = operandStores o s := by
  rcases o with q | _
  · cases op <;> cases q <;> rfl
  · cases op <;> rfl

theorem stores_bit (b : Fin 8) (o : Operand8) (s : State) : Claims.stores (Row.bit b o) s = [] := by
  revert b
  rcases o with q | _
  · cases q <;> exact forall_bit ⟨rfl, rfl, rfl, rfl, rfl, rfl, rfl, rfl⟩
  · exact forall_bit ⟨rfl, rfl, rfl, rfl, rfl, rfl, rfl, rfl⟩

theorem stores_res (b : Fin 8) (o : Operand8) (s : State) :
    Claims.stores (Row.res b o) s = operandStores o s := by
  revert b
  rcases o with q | _
  · cases q <;> exact forall_bit ⟨rfl, rfl, rfl, rfl, rfl, rfl, rfl, rfl⟩
  · exact forall_bit ⟨rfl, rfl, rfl, rfl, rfl, rfl, rfl, rfl⟩

theorem stores_set (b : Fin 8) (o : Operand8) (s : State) :
    Claims.stores (Row.set b o) s = operandStores o s := by
  revert b
  rcases o with q | _
  · cases q <;> exact forall_bit ⟨rfl, rfl, rfl, rfl, rfl, rfl, rfl, rfl⟩
  · exact forall_bit ⟨rfl, rfl, rfl, rfl, rfl, rfl, rfl, rfl⟩

theorem stores_ldPair (p : RR) (m1 m2 : Byte) (s : State) : Claims.stores (Row.ldPair p m1 m2) s = [] := by
  cases p <;> rfl

theorem stores_addHL (p : RR) (s : State) : Claims.stores (Row.addHL p) s = [] := by cases p <;> rfl

theorem stores_incPair (p : RR) (s : State) : Claims.stores (Row.incPair p) s = [] := by cases p <;> rfl

theorem stores_decPair (p : RR) (s : State) : Claims.stores (Row.decPair p) s = [] := by cases p <;> rfl

theorem stores_pop (q : QQ) (s : State) : Claims.stores (Row.pop q) s = [] := by cases q <;> rfl

theorem stores_push (q : QQ) (s : State) : Claims.stores (Row.push q) s = [s.sp - 1, s.sp - 2] := by cases q <;> rfl

theorem stores_rst (k : Fin 8) (s : State) : Claims.stores (Row.rst k) s = [s.sp - 1, s.sp - 2] := by
  revert k
  exact forall_bit ⟨rfl, rfl, rfl, rfl, rfl, rfl, rfl, rfl⟩

theorem stores_jpIf (cc : Cond) (m1 m2 : Byte) (s : State) : Claims.stores (Row.jpIf cc m1 m2) s = [] := by
  cases cc <;> rfl

theorem stores_jrIf (cc : Cond) (n8 : Byte) (s : State) : Claims.stores (Row.jrIf cc n8) s = [] := by
  cases cc <;> rfl

theorem stores_retIf (cc : Cond) (s : State) : Claims.stores (Row.retIf cc) s = [] := by cases cc <;> rfl

theorem pushes_callIf (cc : Cond) (m1 m2 f : Byte) : Claims.pushes (Row.callIf cc m1 m2) f = Claims.holds cc f := by
  rw [← writesSP_callIf cc m1 m2 f]
  cases cc <;> exact (Bool.or_false _).symm

/-- A conditional call stores when its condition holds (46_control.md rule R306). -/
theorem stores_callIf (cc : Cond) (m1 m2 : Byte) (s : State) :
    Claims.stores (Row.callIf cc m1 m2) s = if Claims.holds cc s.f then [s.sp - 1, s.sp - 2] else [] := by
  unfold Claims.stores
  rw [pushes_callIf]
  cases cc <;> rfl

/-- A well-formed instruction raises or stores to the addresses listed for it. -/
def StoresListed (i : Instr) : Prop :=
  i.wf = true → ∀ s t : State, exec i s = .next t → (∃ k, t = s.raise k) ∨ StoresTo (Claims.stores i s) s t

/-- `haltbug` stands apart from memory. -/
theorem State.writeBytes_haltbug_false (s : State) (cells : List (Word × Byte)) :
    ({ s with haltbug := false } : State).writeBytes cells = { s.writeBytes cells with haltbug := false } := by
  induction cells generalizing s with
  | nil => rfl
  | cons c rest ih => exact ih (s.writeByte c.1 c.2)

theorem storesListed_of_rule {i : Instr} {len cost notTaken : Nat} {fl : FlagDescriptor} {addrs : State → List Word}
    {rule : State → Word → Except FaultKind Effect} (hr : HasRow i len fl (instrStep len cost notTaken rule))
    (ha : ∀ s, Claims.stores i s = addrs s)
    (h : ∀ s n x, rule s n = .ok x → StoresTo (addrs s) s x.st) : StoresListed i := by
  obtain ⟨-, -, hx⟩ := hr
  intro _ s t hn
  rw [hx] at hn
  obtain ⟨k, -, hk⟩ | ⟨x, hrule, ht⟩ := instrStep_cases hn
  · cases hk
    exact .inl ⟨k, rfl⟩
  · cases ht
    obtain ⟨cells, hc, hm, hd⟩ := h { s with haltbug := false } _ x hrule
    rw [State.writeBytes_haltbug_false] at hm hd
    exact .inr ⟨cells, hc.trans (ha { s with haltbug := false }).symm, hm, hd⟩

theorem storesListed_of_plain {i : Instr} {len cost : Nat} {fl : FlagDescriptor} {addrs : State → List Word}
    {f : State → State} (hr : HasRow i len fl (plainStep len cost f)) (ha : ∀ s, Claims.stores i s = addrs s)
    (h : ∀ s, StoresTo (addrs s) s (f s)) : StoresListed i :=
  storesListed_of_rule hr ha fun s _ _ hx => by cases hx; exact h s

/-- A plain step that leaves what is behind `BUS` alone, of a row that lists no address. -/
theorem storesListed_of_keeping {i : Instr} {len cost : Nat} {fl : FlagDescriptor} {f : State → State}
    (hr : HasRow i len fl (plainStep len cost f)) (ha : ∀ s, Claims.stores i s = [])
    (h : ∀ s, (f s).mem = s.mem ∧ (f s).device = s.device) : StoresListed i :=
  storesListed_of_plain hr ha fun s => storesTo_of_eq (h s).1 (h s).2

/-- A conditional rule whose body stores nothing. -/
theorem storesListed_of_conditional {i : Instr} {cc : Cond} {len cost notTaken : Nat}
    {body : State → Word → Except FaultKind Effect}
    (hr : HasRow i len flagsKKKK (instrStep len cost notTaken fun s n =>
      if s.cond cc then body s n else .ok { st := s, taken := false }))
    (ha : ∀ s, Claims.stores i s = []) (h : ∀ s n x, body s n = .ok x → StoresTo [] s x.st) : StoresListed i :=
  storesListed_of_rule hr ha fun s n x hx => by
    obtain ⟨-, hb⟩ | ⟨-, rfl⟩ := conditional_cases hx
    · exact h s n x hb
    · exact .rfl

/-- The families one by one. -/
theorem storesListed : ∀ i : Instr, StoresListed i := by
  apply Instr.byFamily
  case prefixCB => exact fun _ => nofun
  case illegal =>
    exact fun i hi => storesListed_of_rule (hasRow_illegal hi) (fun _ => rfl) fun _ _ _ hx => by cases hx
  case ld =>
    exact fun d r h => storesListed_of_plain (hasRow_ld d r h) (stores_ld d r h) fun s => storesTo_setOperand s d _
  case ldImm =>
    exact fun o n8 => storesListed_of_plain (hasRow_ldImm o n8) (stores_ldImm o n8) fun s => storesTo_setOperand s o n8
  case alu =>
    exact fun op o => storesListed_of_keeping (hasRow_alu op o) (stores_alu op o) fun _ => ⟨rfl, rfl⟩
  case aluImm =>
    exact fun op n8 => storesListed_of_keeping (hasRow_aluImm op n8) (stores_aluImm op n8) fun _ => ⟨rfl, rfl⟩
  case inc =>
    exact fun o => storesListed_of_plain (hasRow_inc o) (stores_inc o) fun s =>
      (storesTo_setOperand s o _).setFlags _ _ _ _
  case dec =>
    exact fun o => storesListed_of_plain (hasRow_dec o) (stores_dec o) fun s =>
      (storesTo_setOperand s o _).setFlags _ _ _ _
  case shift =>
    exact fun op o => storesListed_of_plain (hasRow_shift op o) (stores_shift op o) fun s =>
      (storesTo_setOperand s o _).setFlags _ _ _ _
  case bit =>
    exact fun b o => storesListed_of_keeping (hasRow_bit b o) (stores_bit b o) fun _ => ⟨rfl, rfl⟩
  case res =>
    exact fun b o => storesListed_of_plain (hasRow_res b o) (stores_res b o) fun s => storesTo_setOperand s o _
  case set =>
    exact fun b o => storesListed_of_plain (hasRow_set b o) (stores_set b o) fun s => storesTo_setOperand s o _
  case ldPair =>
    exact fun p m1 m2 => storesListed_of_keeping (hasRow_ldPair p m1 m2) (stores_ldPair p m1 m2) fun s =>
      ⟨State.setPair_mem s p _, State.setPair_device s p _⟩
  case incPair =>
    exact fun p => storesListed_of_keeping (hasRow_incPair p) (stores_incPair p) fun s =>
      ⟨State.setPair_mem s p _, State.setPair_device s p _⟩
  case decPair =>
    exact fun p => storesListed_of_keeping (hasRow_decPair p) (stores_decPair p) fun s =>
      ⟨State.setPair_mem s p _, State.setPair_device s p _⟩
  case addHL =>
    exact fun p => storesListed_of_keeping (hasRow_addHL p) (stores_addHL p) fun _ => ⟨rfl, rfl⟩
  case push =>
    refine fun q => storesListed_of_rule (hasRow_push q) (stores_push q) fun s n x hx => ?_
    split at hx <;> cases hx
    exact storesTo_push16 ‹_›
  case pop =>
    refine fun q => storesListed_of_rule (hasRow_pop q) (stores_pop q) fun s n x hx => ?_
    split at hx <;> cases hx
    exact storesTo_setStackPair (storesTo_pop16 ‹_›) q _
  case ldAtA16SP =>
    refine fun m1 m2 => storesListed_of_rule (hasRow_ldAtA16SP m1 m2) (fun _ => rfl) fun s n x hx => ?_
    split at hx <;> cases hx
    exact storesTo_writeWordUp ‹_›
  case callIf =>
    refine fun cc m1 m2 => storesListed_of_rule (hasRow_callIf cc m1 m2) (stores_callIf cc m1 m2) fun s n x hx => ?_
    obtain ⟨hc, hb⟩ | ⟨hc, rfl⟩ := conditional_cases hx
    · rw [hc]
      exact storesTo_callRule hb
    · rw [hc]
      exact .rfl
  case rst =>
    refine fun k => storesListed_of_rule (hasRow_rst k) (stores_rst k) fun s n x hx => ?_
    split at hx
    · exact storesTo_callRule hx
    · cases hx
  case callA16 =>
    exact fun m1 m2 => storesListed_of_rule (hasRow_callA16 m1 m2) (fun _ => rfl) fun _ _ _ => storesTo_callRule
  case jpIf =>
    exact fun cc m1 m2 => storesListed_of_conditional (hasRow_jpIf cc m1 m2) (stores_jpIf cc m1 m2)
      fun _ _ _ hx => by cases hx; exact .rfl
  case jrIf =>
    exact fun cc n8 => storesListed_of_conditional (hasRow_jrIf cc n8) (stores_jrIf cc n8)
      fun _ _ _ hx => by cases hx; exact .rfl
  case retIf =>
    exact fun cc => storesListed_of_conditional (hasRow_retIf cc) (stores_retIf cc) fun _ _ _ => storesTo_retRule
  case ret => exact storesListed_of_rule hasRow_ret (fun _ => rfl) fun _ _ _ => storesTo_retRule
  case reti => exact storesListed_of_rule hasRow_reti (fun _ => rfl) fun _ _ _ => storesTo_returnFromInterrupt
  case jpA16 =>
    exact fun m1 m2 => storesListed_of_rule (hasRow_jpA16 m1 m2) (fun _ => rfl) fun _ _ _ hx => by cases hx; exact .rfl
  case jrR8 =>
    exact fun n8 => storesListed_of_rule (hasRow_jrR8 n8) (fun _ => rfl) fun _ _ _ hx => by cases hx; exact .rfl
  case jpHL => exact storesListed_of_rule hasRow_jpHL (fun _ => rfl) fun _ _ _ hx => by cases hx; exact .rfl
  case ei => exact storesListed_of_rule hasRow_ei (fun _ => rfl) fun _ _ _ hx => by cases hx; exact .rfl
  case ldAtHLIncA =>
    exact storesListed_of_plain hasRow_ldAtHLIncA (fun _ => rfl) fun s => (storesTo_writeByte s s.hl s.a).setHL _
  case ldAtHLDecA =>
    exact storesListed_of_plain hasRow_ldAtHLDecA (fun _ => rfl) fun s => (storesTo_writeByte s s.hl s.a).setHL _
  case ldAtBCA => exact storesListed_of_plain hasRow_ldAtBCA (fun _ => rfl) fun s => storesTo_writeByte s s.bc s.a
  case ldAtDEA => exact storesListed_of_plain hasRow_ldAtDEA (fun _ => rfl) fun s => storesTo_writeByte s s.de s.a
  case ldAtCA =>
    exact storesListed_of_plain hasRow_ldAtCA (fun _ => rfl) fun s => storesTo_writeByte s (ioAddress s.c) s.a
  case ldhAtA8A =>
    exact fun n8 => storesListed_of_plain (hasRow_ldhAtA8A n8) (fun _ => rfl) fun s =>
      storesTo_writeByte s (ioAddress n8) s.a
  case ldAtA16A =>
    exact fun m1 m2 => storesListed_of_plain (hasRow_ldAtA16A m1 m2) (fun _ => rfl) fun s =>
      storesTo_writeByte s (s.imm16 m1 m2) s.a
  case nop => exact storesListed_of_keeping hasRow_nop (fun _ => rfl) fun _ => ⟨rfl, rfl⟩
  case stop => exact fun pad => storesListed_of_keeping (hasRow_stop pad) (fun _ => rfl) fun _ => ⟨rfl, rfl⟩
  case halt => exact storesListed_of_keeping hasRow_halt (fun _ => rfl) fun _ => by split <;> exact ⟨rfl, rfl⟩
  case di => exact storesListed_of_keeping hasRow_di (fun _ => rfl) fun _ => ⟨rfl, rfl⟩
  case scf => exact storesListed_of_keeping hasRow_scf (fun _ => rfl) fun _ => ⟨rfl, rfl⟩
  case ccf => exact storesListed_of_keeping hasRow_ccf (fun _ => rfl) fun _ => ⟨rfl, rfl⟩
  case rlca => exact storesListed_of_keeping hasRow_rlca (fun _ => rfl) fun _ => ⟨rfl, rfl⟩
  case rrca => exact storesListed_of_keeping hasRow_rrca (fun _ => rfl) fun _ => ⟨rfl, rfl⟩
  case rla => exact storesListed_of_keeping hasRow_rla (fun _ => rfl) fun _ => ⟨rfl, rfl⟩
  case rra => exact storesListed_of_keeping hasRow_rra (fun _ => rfl) fun _ => ⟨rfl, rfl⟩
  case daa => exact storesListed_of_keeping hasRow_daa (fun _ => rfl) fun _ => ⟨rfl, rfl⟩
  case cpl => exact storesListed_of_keeping hasRow_cpl (fun _ => rfl) fun _ => ⟨rfl, rfl⟩
  case ldSPHL => exact storesListed_of_keeping hasRow_ldSPHL (fun _ => rfl) fun _ => ⟨rfl, rfl⟩
  case addSPR8 =>
    exact fun n8 => storesListed_of_keeping (hasRow_addSPR8 n8) (fun _ => rfl) fun _ => ⟨rfl, rfl⟩
  case ldHLSPR8 =>
    exact fun n8 => storesListed_of_keeping (hasRow_ldHLSPR8 n8) (fun _ => rfl) fun _ => ⟨rfl, rfl⟩
  case ldAAtHLInc => exact storesListed_of_keeping hasRow_ldAAtHLInc (fun _ => rfl) fun _ => ⟨rfl, rfl⟩
  case ldAAtHLDec => exact storesListed_of_keeping hasRow_ldAAtHLDec (fun _ => rfl) fun _ => ⟨rfl, rfl⟩
  case ldAAtBC => exact storesListed_of_keeping hasRow_ldAAtBC (fun _ => rfl) fun _ => ⟨rfl, rfl⟩
  case ldAAtDE => exact storesListed_of_keeping hasRow_ldAAtDE (fun _ => rfl) fun _ => ⟨rfl, rfl⟩
  case ldAAtC => exact storesListed_of_keeping hasRow_ldAAtC (fun _ => rfl) fun _ => ⟨rfl, rfl⟩
  case ldhAAtA8 =>
    exact fun n8 => storesListed_of_keeping (hasRow_ldhAAtA8 n8) (fun _ => rfl) fun _ => ⟨rfl, rfl⟩
  case ldAAtA16 =>
    exact fun m1 m2 => storesListed_of_keeping (hasRow_ldAAtA16 m1 m2) (fun _ => rfl) fun _ => ⟨rfl, rfl⟩

/-- No instruction changes the parameters, so `BUS` is the same after it. -/
theorem exec_cfg {i : Instr} {s t : State} (h : exec i s = .next t) : t.cfg = s.cfg :=
  (congrArg State.cfg (exec_keeps_outsideCpu h).1 :)

/-- Writes at no address leave what is behind `BUS` alone. -/
theorem StoresTo.eq_of_nil {s t : State} (h : StoresTo [] s t) : t.mem = s.mem ∧ t.device = s.device := by
  obtain ⟨cells, hc, hm, hd⟩ := h
  obtain rfl := List.map_eq_nil_iff.mp hc
  exact ⟨hm, hd⟩

/-- On the default `BUS` a byte at no address stored to reads as before. -/
theorem StoresTo.readByte_eq {addrs : List Word} {s t : State} (h : StoresTo addrs s t) (hcfg : t.cfg = s.cfg)
    (hb : s.cfg.bus = .flat) {a : Word} (ha : a ∉ addrs) : t.readByte a = s.readByte a := by
  obtain ⟨cells, rfl, hm, hd⟩ := h
  have hbus : t.cfg.bus = (s.writeBytes cells).cfg.bus := by rw [hcfg, State.writeBytes_frame]
  exact (State.readByte_congr hbus hm hd a).trans (State.readByte_writeBytes_other cells hb ha)

/-- Settles O18: every family stores to its listed addresses alone, and a raise stores nothing. -/
theorem memoryFrame : Obligations.MemoryFrame := by
  unfold Obligations.MemoryFrame
  intro i s t hwf h
  obtain ⟨k, rfl⟩ | hst := storesListed i hwf s t h
  · exact ⟨nofun, fun _ => ⟨rfl, rfl⟩, fun _ _ _ => rfl⟩
  · exact ⟨fun _ => hst, fun hnil => (hnil ▸ hst).eq_of_nil, fun hb _ ha => hst.readByte_eq (exec_cfg h) hb ha⟩

end Sys2Proof.Machine

/-! PROOFS. Encodings (30_encoding.md). One lemma for each family of rows says its bytes and that they decode to it
(O1); the quadrants of the opcode table then say that whatever an opcode byte opens is a row with that byte (O2), which
gives lengths (O3) and what a fetch needs (O4). -/

namespace Sys2Proof.Machine

open Claims

/-! ## Rows and their bytes -/

/-- The well-formed instruction with these bytes: the encoder writes them, its row gives their number, and they decode
to it whatever follows (30_encoding.md rules R111, R113, R122, R123). -/
structure EncodedAs (i : Instr) (bytes : List Byte) : Prop where
  wf : i.wf = true
  encode_eq : encode i = bytes
  byteLength_eq : i.spec.byteLength = bytes.length
  decode_eq : ∀ rest, decode (bytes ++ rest) = .ok (i, rest)

theorem EncodedAs.decode_encode {i : Instr} {bytes : List Byte} (h : EncodedAs i bytes) (rest : List Byte) :
    decode (encode i ++ rest) = .ok (i, rest) := h.encode_eq ▸ h.decode_eq rest

/-! Families of rows, with the fields of their opcode bytes (rules R114 to R119). -/

theorem encodedAs_ld (d r : Operand8) : EncodedAs (Row.ld d r) [opcode 1 (operandCode d) (operandCode r)] := by
  rcases d with q | _ <;> rcases r with r | _
  · cases q <;> cases r <;> exact ⟨rfl, rfl, rfl, fun _ => rfl⟩
  · cases q <;> exact ⟨rfl, rfl, rfl, fun _ => rfl⟩
  · cases r <;> exact ⟨rfl, rfl, rfl, fun _ => rfl⟩
  · exact ⟨rfl, rfl, rfl, fun _ => rfl⟩

theorem encodedAs_ldImm (o : Operand8) (n8 : Byte) : EncodedAs (Row.ldImm o n8) [opcode 0 (operandCode o) 6, n8] := by
  rcases o with r | _
  · cases r <;> exact ⟨rfl, rfl, rfl, fun _ => rfl⟩
  · exact ⟨rfl, rfl, rfl, fun _ => rfl⟩

theorem encodedAs_alu (op : AluOp) (o : Operand8) :
    EncodedAs (Row.alu op o) [opcode 2 (aluCode op) (operandCode o)] := by
  rcases o with r | _
  · cases op <;> cases r <;> exact ⟨rfl, rfl, rfl, fun _ => rfl⟩
  · cases op <;> exact ⟨rfl, rfl, rfl, fun _ => rfl⟩

theorem encodedAs_aluImm (op : AluOp) (n8 : Byte) : EncodedAs (Row.aluImm op n8) [opcode 3 (aluCode op) 6, n8] := by
  cases op <;> exact ⟨rfl, rfl, rfl, fun _ => rfl⟩

theorem encodedAs_inc (o : Operand8) : EncodedAs (Row.inc o) [opcode 0 (operandCode o) 4] := by
  rcases o with r | _
  · cases r <;> exact ⟨rfl, rfl, rfl, fun _ => rfl⟩
  · exact ⟨rfl, rfl, rfl, fun _ => rfl⟩

theorem encodedAs_dec (o : Operand8) : EncodedAs (Row.dec o) [opcode 0 (operandCode o) 5] := by
  rcases o with r | _
  · cases r <;> exact ⟨rfl, rfl, rfl, fun _ => rfl⟩
  · exact ⟨rfl, rfl, rfl, fun _ => rfl⟩

theorem encodedAs_shift (op : ShiftOp) (o : Operand8) :
    EncodedAs (Row.shift op o) [0xCB#8, opcode 0 (shiftCode op) (operandCode o)] := by
  rcases o with r | _
  · cases op <;> cases r <;> exact ⟨rfl, rfl, rfl, fun _ => rfl⟩
  · cases op <;> exact ⟨rfl, rfl, rfl, fun _ => rfl⟩

theorem encodedAs_bit (b : Fin 8) (o : Operand8) :
    EncodedAs (Row.bit b o) [0xCB#8, opcode 1 b.val (operandCode o)] := by
  rcases o with r | _
  · fin_cases b <;> cases r <;> exact ⟨rfl, rfl, rfl, fun _ => rfl⟩
  · fin_cases b <;> exact ⟨rfl, rfl, rfl, fun _ => rfl⟩

theorem encodedAs_res (b : Fin 8) (o : Operand8) :
    EncodedAs (Row.res b o) [0xCB#8, opcode 2 b.val (operandCode o)] := by
  rcases o with r | _
  · fin_cases b <;> cases r <;> exact ⟨rfl, rfl, rfl, fun _ => rfl⟩
  · fin_cases b <;> exact ⟨rfl, rfl, rfl, fun _ => rfl⟩

theorem encodedAs_set (b : Fin 8) (o : Operand8) :
    EncodedAs (Row.set b o) [0xCB#8, opcode 3 b.val (operandCode o)] := by
  rcases o with r | _
  · fin_cases b <;> cases r <;> exact ⟨rfl, rfl, rfl, fun _ => rfl⟩
  · fin_cases b <;> exact ⟨rfl, rfl, rfl, fun _ => rfl⟩

theorem encodedAs_ldPair (p : RR) (m1 m2 : Byte) :
    EncodedAs (Row.ldPair p m1 m2) [opcode 0 (2 * pairCode p) 1, m1, m2] := by
  cases p <;> exact ⟨rfl, rfl, rfl, fun _ => rfl⟩

theorem encodedAs_addHL (p : RR) : EncodedAs (Row.addHL p) [opcode 0 (2 * pairCode p + 1) 1] := by
  cases p <;> exact ⟨rfl, rfl, rfl, fun _ => rfl⟩

theorem encodedAs_incPair (p : RR) : EncodedAs (Row.incPair p) [opcode 0 (2 * pairCode p) 3] := by
  cases p <;> exact ⟨rfl, rfl, rfl, fun _ => rfl⟩

theorem encodedAs_decPair (p : RR) : EncodedAs (Row.decPair p) [opcode 0 (2 * pairCode p + 1) 3] := by
  cases p <;> exact ⟨rfl, rfl, rfl, fun _ => rfl⟩

theorem encodedAs_push (q : QQ) : EncodedAs (Row.push q) [opcode 3 (2 * stackPairCode q) 5] := by
  cases q <;> exact ⟨rfl, rfl, rfl, fun _ => rfl⟩

theorem encodedAs_pop (q : QQ) : EncodedAs (Row.pop q) [opcode 3 (2 * stackPairCode q) 1] := by
  cases q <;> exact ⟨rfl, rfl, rfl, fun _ => rfl⟩

theorem encodedAs_jpIf (cc : Cond) (m1 m2 : Byte) :
    EncodedAs (Row.jpIf cc m1 m2) [opcode 3 (condCode cc) 2, m1, m2] := by
  cases cc <;> exact ⟨rfl, rfl, rfl, fun _ => rfl⟩

theorem encodedAs_callIf (cc : Cond) (m1 m2 : Byte) :
    EncodedAs (Row.callIf cc m1 m2) [opcode 3 (condCode cc) 4, m1, m2] := by
  cases cc <;> exact ⟨rfl, rfl, rfl, fun _ => rfl⟩

theorem encodedAs_jrIf (cc : Cond) (n8 : Byte) : EncodedAs (Row.jrIf cc n8) [opcode 0 (4 + condCode cc) 0, n8] := by
  cases cc <;> exact ⟨rfl, rfl, rfl, fun _ => rfl⟩

theorem encodedAs_retIf (cc : Cond) : EncodedAs (Row.retIf cc) [opcode 3 (condCode cc) 0] := by
  cases cc <;> exact ⟨rfl, rfl, rfl, fun _ => rfl⟩

theorem encodedAs_rst (k : Fin 8) : EncodedAs (Row.rst k) [opcode 3 k.val 7] := by
  fin_cases k <;> exact ⟨rfl, rfl, rfl, fun _ => rfl⟩

theorem encodedAs_illegal {i : Instr} (h : i ∈ Row.illegals) : EncodedAs i [i.spec.value] := by
  simp only [Row.illegals, List.mem_cons, List.not_mem_nil, or_false] at h
  rcases h with rfl | rfl | rfl | rfl | rfl | rfl | rfl | rfl | rfl | rfl | rfl <;>
    exact ⟨rfl, rfl, rfl, fun _ => rfl⟩

/-! Rows that stand alone and carry immediate bytes. -/

theorem encodedAs_stop (pad : Byte) : EncodedAs (.stop pad) [0x10#8, pad] := ⟨rfl, rfl, rfl, fun _ => rfl⟩

theorem encodedAs_jrR8 (n8 : Byte) : EncodedAs (.jrR8 n8) [0x18#8, n8] := ⟨rfl, rfl, rfl, fun _ => rfl⟩

theorem encodedAs_ldhAtA8A (n8 : Byte) : EncodedAs (.ldhAtA8A n8) [0xE0#8, n8] := ⟨rfl, rfl, rfl, fun _ => rfl⟩

theorem encodedAs_addSPR8 (n8 : Byte) : EncodedAs (.addSPR8 n8) [0xE8#8, n8] := ⟨rfl, rfl, rfl, fun _ => rfl⟩

theorem encodedAs_ldhAAtA8 (n8 : Byte) : EncodedAs (.ldhAAtA8 n8) [0xF0#8, n8] := ⟨rfl, rfl, rfl, fun _ => rfl⟩

theorem encodedAs_ldHLSPR8 (n8 : Byte) : EncodedAs (.ldHLSPR8 n8) [0xF8#8, n8] := ⟨rfl, rfl, rfl, fun _ => rfl⟩

theorem encodedAs_ldAtA16SP (m1 m2 : Byte) : EncodedAs (.ldAtA16SP m1 m2) [0x08#8, m1, m2] :=
  ⟨rfl, rfl, rfl, fun _ => rfl⟩

theorem encodedAs_jpA16 (m1 m2 : Byte) : EncodedAs (.jpA16 m1 m2) [0xC3#8, m1, m2] := ⟨rfl, rfl, rfl, fun _ => rfl⟩

theorem encodedAs_callA16 (m1 m2 : Byte) : EncodedAs (.callA16 m1 m2) [0xCD#8, m1, m2] :=
  ⟨rfl, rfl, rfl, fun _ => rfl⟩

theorem encodedAs_ldAtA16A (m1 m2 : Byte) : EncodedAs (.ldAtA16A m1 m2) [0xEA#8, m1, m2] :=
  ⟨rfl, rfl, rfl, fun _ => rfl⟩

theorem encodedAs_ldAAtA16 (m1 m2 : Byte) : EncodedAs (.ldAAtA16 m1 m2) [0xFA#8, m1, m2] :=
  ⟨rfl, rfl, rfl, fun _ => rfl⟩

/-- Settles O1: each family's bytes decode to its rows, and so do those of the rows that stand alone. -/
theorem decodeInvertsEncode : Obligations.DecodeInvertsEncode := by
  unfold Obligations.DecodeInvertsEncode
  suffices h : ∀ i : Instr, i.wf = true → ∀ rest, decode (encode i ++ rest) = .ok (i, rest) from
    fun i rest hwf => h i hwf rest
  apply Instr.byFamily
  case ld => exact fun d r _ _ => (encodedAs_ld d r).decode_encode
  case ldImm => exact fun o n8 _ => (encodedAs_ldImm o n8).decode_encode
  case alu => exact fun op o _ => (encodedAs_alu op o).decode_encode
  case aluImm => exact fun op n8 _ => (encodedAs_aluImm op n8).decode_encode
  case inc => exact fun o _ => (encodedAs_inc o).decode_encode
  case dec => exact fun o _ => (encodedAs_dec o).decode_encode
  case shift => exact fun op o _ => (encodedAs_shift op o).decode_encode
  case bit => exact fun b o _ => (encodedAs_bit b o).decode_encode
  case res => exact fun b o _ => (encodedAs_res b o).decode_encode
  case set => exact fun b o _ => (encodedAs_set b o).decode_encode
  case ldPair => exact fun p m1 m2 _ => (encodedAs_ldPair p m1 m2).decode_encode
  case addHL => exact fun p _ => (encodedAs_addHL p).decode_encode
  case incPair => exact fun p _ => (encodedAs_incPair p).decode_encode
  case decPair => exact fun p _ => (encodedAs_decPair p).decode_encode
  case push => exact fun q _ => (encodedAs_push q).decode_encode
  case pop => exact fun q _ => (encodedAs_pop q).decode_encode
  case jpIf => exact fun cc m1 m2 _ => (encodedAs_jpIf cc m1 m2).decode_encode
  case callIf => exact fun cc m1 m2 _ => (encodedAs_callIf cc m1 m2).decode_encode
  case jrIf => exact fun cc n8 _ => (encodedAs_jrIf cc n8).decode_encode
  case retIf => exact fun cc _ => (encodedAs_retIf cc).decode_encode
  case rst => exact fun k _ => (encodedAs_rst k).decode_encode
  case illegal => exact fun i hi _ => (encodedAs_illegal hi).decode_encode
  case stop => exact fun pad _ => (encodedAs_stop pad).decode_encode
  case jrR8 => exact fun n8 _ => (encodedAs_jrR8 n8).decode_encode
  case ldhAtA8A => exact fun n8 _ => (encodedAs_ldhAtA8A n8).decode_encode
  case addSPR8 => exact fun n8 _ => (encodedAs_addSPR8 n8).decode_encode
  case ldhAAtA8 => exact fun n8 _ => (encodedAs_ldhAAtA8 n8).decode_encode
  case ldHLSPR8 => exact fun n8 _ => (encodedAs_ldHLSPR8 n8).decode_encode
  case ldAtA16SP => exact fun m1 m2 _ => (encodedAs_ldAtA16SP m1 m2).decode_encode
  case jpA16 => exact fun m1 m2 _ => (encodedAs_jpA16 m1 m2).decode_encode
  case callA16 => exact fun m1 m2 _ => (encodedAs_callA16 m1 m2).decode_encode
  case ldAtA16A => exact fun m1 m2 _ => (encodedAs_ldAtA16A m1 m2).decode_encode
  case ldAAtA16 => exact fun m1 m2 _ => (encodedAs_ldAAtA16 m1 m2).decode_encode
  case prefixCB => exact fun _ => nofun
  all_goals
    intros
    rfl

/-! ## The fields of an opcode byte -/

theorem fieldY_lt (b : Byte) : fieldY b < 8 := Nat.mod_lt _ (by decide)

theorem fieldZ_lt (b : Byte) : fieldZ b < 8 := Nat.mod_lt _ (by decide)

theorem fieldX_lt (b : Byte) : fieldX b < 4 := by
  have := b.isLt
  unfold fieldX
  omega

/-- An opcode byte is its three fields (rule R114). -/
theorem opcode_eq {b : Byte} {x y z : Nat} (hx : fieldX b = x) (hy : fieldY b = y) (hz : fieldZ b = z) :
    opcode x y z = b := by
  unfold fieldX fieldY fieldZ at *
  rw [opcode, show 64 * x + 8 * y + z = b.toNat by omega, BitVec.ofNat_toNat, BitVec.setWidth_eq]

/-! The tables of rules R115 to R118: a field selects an operand that has the field's value. -/

@[simp] theorem operandCode_fieldY (b : Byte) : operandCode (.ofField (fieldY b)) = fieldY b := by
  have h := fieldY_lt b
  interval_cases fieldY b <;> rfl

@[simp] theorem operandCode_fieldZ (b : Byte) : operandCode (.ofField (fieldZ b)) = fieldZ b := by
  have h := fieldZ_lt b
  interval_cases fieldZ b <;> rfl

@[simp] theorem aluCode_fieldY (b : Byte) : aluCode (.ofField (fieldY b)) = fieldY b := by
  have h := fieldY_lt b
  interval_cases fieldY b <;> rfl

@[simp] theorem shiftCode_fieldY (b : Byte) : shiftCode (.ofField (fieldY b)) = fieldY b := by
  have h := fieldY_lt b
  interval_cases fieldY b <;> rfl

@[simp] theorem bitOfField_fieldY (b : Byte) : (bitOfField (fieldY b)).val = fieldY b := Nat.mod_mod _ 8

/-! ## What an opcode byte opens -/

/-- The byte opens a row, or some rows, whose encoding it begins. -/
def StandsFor (b : Byte) : Opened → Prop
  | .whole i => EncodedAs i [b]
  | .imm8 f => ∀ n8, EncodedAs (f n8) [b, n8]
  | .imm16 f => ∀ m1 m2, EncodedAs (f m1 m2) [b, m1, m2]
  | .cbTable => ∀ op, EncodedAs (decodeCB op) [b, op]

/-- Every byte after 0xCB is a row of the CB table (rules R118, R127). -/
theorem encodedAs_decodeCB (op : Byte) : EncodedAs (decodeCB op) [0xCB#8, op] := by
  have hx4 := fieldX_lt op
  interval_cases hx : fieldX op
  · simpa [decodeCB, hx, opcode_eq hx rfl rfl] using encodedAs_shift (.ofField (fieldY op)) (.ofField (fieldZ op))
  · simpa [decodeCB, hx, opcode_eq hx rfl rfl] using encodedAs_bit (bitOfField (fieldY op)) (.ofField (fieldZ op))
  · simpa [decodeCB, hx, opcode_eq hx rfl rfl] using encodedAs_res (bitOfField (fieldY op)) (.ofField (fieldZ op))
  · simpa [decodeCB, hx, opcode_eq hx rfl rfl] using encodedAs_set (bitOfField (fieldY op)) (.ofField (fieldZ op))

/-- Quadrant `x = 0` of rule R124, by `z`. -/
theorem standsFor_openX0 {b : Byte} (hx : fieldX b = 0) : StandsFor b (openX0 b) := by
  have hy8 := fieldY_lt b
  have hz8 := fieldZ_lt b
  interval_cases hz : fieldZ b
  · interval_cases hy : fieldY b <;> obtain rfl := opcode_eq hx hy hz
    · exact .mk rfl rfl rfl fun _ => rfl
    · exact encodedAs_ldAtA16SP
    · exact encodedAs_stop
    · exact encodedAs_jrR8
    · exact encodedAs_jrIf .nz
    · exact encodedAs_jrIf .z
    · exact encodedAs_jrIf .nc
    · exact encodedAs_jrIf .c
  · interval_cases hy : fieldY b <;> obtain rfl := opcode_eq hx hy hz
    · exact encodedAs_ldPair .bc
    · exact encodedAs_addHL .bc
    · exact encodedAs_ldPair .de
    · exact encodedAs_addHL .de
    · exact encodedAs_ldPair .hl
    · exact encodedAs_addHL .hl
    · exact encodedAs_ldPair .sp
    · exact encodedAs_addHL .sp
  · interval_cases hy : fieldY b <;> obtain rfl := opcode_eq hx hy hz <;> exact .mk rfl rfl rfl fun _ => rfl
  · interval_cases hy : fieldY b <;> obtain rfl := opcode_eq hx hy hz <;> exact .mk rfl rfl rfl fun _ => rfl
  · simpa [openX0, hz, StandsFor, opcode_eq hx rfl hz] using encodedAs_inc (.ofField (fieldY b))
  · simpa [openX0, hz, StandsFor, opcode_eq hx rfl hz] using encodedAs_dec (.ofField (fieldY b))
  · simpa [openX0, hz, StandsFor, opcode_eq hx rfl hz] using encodedAs_ldImm (.ofField (fieldY b))
  · interval_cases hy : fieldY b <;> obtain rfl := opcode_eq hx hy hz <;> exact .mk rfl rfl rfl fun _ => rfl

/-- Quadrant `x = 3` of rule R124, by `z`. -/
theorem standsFor_openX3 {b : Byte} (hx : fieldX b = 3) : StandsFor b (openX3 b) := by
  have hy8 := fieldY_lt b
  have hz8 := fieldZ_lt b
  interval_cases hz : fieldZ b
  · interval_cases hy : fieldY b <;> obtain rfl := opcode_eq hx hy hz
    · exact encodedAs_retIf .nz
    · exact encodedAs_retIf .z
    · exact encodedAs_retIf .nc
    · exact encodedAs_retIf .c
    · exact encodedAs_ldhAtA8A
    · exact encodedAs_addSPR8
    · exact encodedAs_ldhAAtA8
    · exact encodedAs_ldHLSPR8
  · interval_cases hy : fieldY b <;> obtain rfl := opcode_eq hx hy hz <;> exact .mk rfl rfl rfl fun _ => rfl
  · interval_cases hy : fieldY b <;> obtain rfl := opcode_eq hx hy hz
    · exact encodedAs_jpIf .nz
    · exact encodedAs_jpIf .z
    · exact encodedAs_jpIf .nc
    · exact encodedAs_jpIf .c
    · exact .mk rfl rfl rfl fun _ => rfl
    · exact encodedAs_ldAtA16A
    · exact .mk rfl rfl rfl fun _ => rfl
    · exact encodedAs_ldAAtA16
  · interval_cases hy : fieldY b <;> obtain rfl := opcode_eq hx hy hz
    · exact encodedAs_jpA16
    · exact encodedAs_decodeCB
    all_goals exact .mk rfl rfl rfl fun _ => rfl
  · interval_cases hy : fieldY b <;> obtain rfl := opcode_eq hx hy hz
    · exact encodedAs_callIf .nz
    · exact encodedAs_callIf .z
    · exact encodedAs_callIf .nc
    · exact encodedAs_callIf .c
    all_goals exact .mk rfl rfl rfl fun _ => rfl
  · interval_cases hy : fieldY b <;> obtain rfl := opcode_eq hx hy hz
    · exact encodedAs_push .bc
    · exact encodedAs_callA16
    all_goals exact .mk rfl rfl rfl fun _ => rfl
  · simpa [openX3, hz, StandsFor, opcode_eq hx rfl hz] using encodedAs_aluImm (.ofField (fieldY b))
  · simpa [openX3, hz, StandsFor, opcode_eq hx rfl hz] using encodedAs_rst (bitOfField (fieldY b))

/-- Every opcode byte stands for what it opens (rules R111, R124, R126). -/
theorem standsFor_openOpcode (b : Byte) : StandsFor b (openOpcode b) := by
  have hx4 := fieldX_lt b
  interval_cases hx : fieldX b
  · simpa [openOpcode, hx] using standsFor_openX0 hx
  · simpa [openOpcode, hx, StandsFor, opcode_eq hx rfl rfl] using
      encodedAs_ld (.ofField (fieldY b)) (.ofField (fieldZ b))
  · simpa [openOpcode, hx, StandsFor, opcode_eq hx rfl rfl] using
      encodedAs_alu (.ofField (fieldY b)) (.ofField (fieldZ b))
  · simpa [openOpcode, hx] using standsFor_openX3 hx

/-! ## Decoding bytes -/

/-- Bytes that decode begin with the encoding of the instruction, of the length their first byte announces. -/
theorem encodedAs_of_decode {b : Byte} {bytes rest : List Byte} {i : Instr} (h : decode (b :: bytes) = .ok (i, rest)) :
    ∃ head, EncodedAs i head ∧ b :: bytes = head ++ rest ∧ head.length = opcodeLength b := by
  have hb := standsFor_openOpcode b
  rw [opcodeLength]
  cases ho : openOpcode b with
  | whole j =>
    simp only [decode, ho, Except.ok.injEq, Prod.mk.injEq] at h hb
    obtain ⟨rfl, rfl⟩ := h
    exact ⟨_, hb, rfl, rfl⟩
  | imm8 f =>
    rcases bytes with _ | ⟨n8, bytes⟩ <;> simp only [decode, ho, Except.ok.injEq, Prod.mk.injEq, reduceCtorEq] at h hb
    obtain ⟨rfl, rfl⟩ := h
    exact ⟨_, hb n8, rfl, rfl⟩
  | imm16 f =>
    rcases bytes with _ | ⟨m1, _ | ⟨m2, bytes⟩⟩ <;>
      simp only [decode, ho, Except.ok.injEq, Prod.mk.injEq, reduceCtorEq] at h hb
    obtain ⟨rfl, rfl⟩ := h
    exact ⟨_, hb m1 m2, rfl, rfl⟩
  | cbTable =>
    rcases bytes with _ | ⟨op, bytes⟩ <;> simp only [decode, ho, Except.ok.injEq, Prod.mk.injEq, reduceCtorEq] at h hb
    obtain ⟨rfl, rfl⟩ := h
    exact ⟨_, hb op, rfl, rfl⟩

/-- Settles O2: the bytes begin with the encoding of a well-formed row. -/
theorem encodeInvertsDecode : Obligations.EncodeInvertsDecode := by
  unfold Obligations.EncodeInvertsDecode
  intro bytes rest i h
  cases bytes with
  | nil => cases h
  | cons b bytes =>
    obtain ⟨head, hi, hbytes, -⟩ := encodedAs_of_decode h
    exact ⟨hi.wf, by rw [hbytes, hi.encode_eq]⟩

theorem opcodeLength_cases (b : Byte) : opcodeLength b = 1 ∨ opcodeLength b = 2 ∨ opcodeLength b = 3 := by
  unfold opcodeLength
  split <;> decide

/-- Bytes decode when those that the first one announces are there (rule R110). -/
theorem decode_isOk_iff (b : Byte) (bytes : List Byte) :
    (∃ r, decode (b :: bytes) = .ok r) ↔ opcodeLength b ≤ (b :: bytes).length := by
  cases ho : openOpcode b with
  | whole j => simp [decode, opcodeLength, ho]
  | imm8 f => cases bytes <;> simp [decode, opcodeLength, ho]
  | imm16 f => rcases bytes with _ | ⟨m1, _ | ⟨m2, bytes⟩⟩ <;> simp [decode, opcodeLength, ho]
  | cbTable => cases bytes <;> simp [decode, opcodeLength, ho]

/-- Settles O3: what the first byte opens gives the length, and the bytes that are decoded are the row's own. -/
theorem lengthFromFirstByte : Obligations.LengthFromFirstByte := by
  unfold Obligations.LengthFromFirstByte
  intro b0 rest
  refine ⟨opcodeLength_cases b0, rfl, rfl, fun pad => (encodedAs_stop pad).decode_eq rest, decode_isOk_iff b0 rest,
    fun i tail h => ?_⟩
  obtain ⟨head, hi, -, hlen⟩ := encodedAs_of_decode h
  exact ⟨by rw [hi.encode_eq, hlen], by rw [hi.byteLength_eq, hlen]⟩

/-- Settles O5: each word is the bytes of a row of its family. -/
theorem writtenOutWordsDecode : Obligations.WrittenOutWordsDecode := by
  unfold Obligations.WrittenOutWordsDecode
  exact ⟨(encodedAs_ld (.reg .a) (.reg .b)).decode_eq [], (encodedAs_ldImm (.reg .c) 0x5A#8).decode_eq [],
    (encodedAs_ldPair .hl 0x34#8 0x12#8).decode_eq [], (encodedAs_push .af).decode_eq [],
    (encodedAs_alu .sbc .atHL).decode_eq [], (encodedAs_aluImm .cp 0x40#8).decode_eq [],
    (encodedAs_addHL .sp).decode_eq [], rfl, (encodedAs_shift .swap (.reg .a)).decode_eq [],
    (encodedAs_bit 7 (.reg .h)).decode_eq [], (encodedAs_set 1 (.reg .e)).decode_eq [],
    (encodedAs_jrIf .c 0xFE#8).decode_eq [], (encodedAs_rst 2).decode_eq [], rfl, rfl,
    (encodedAs_illegal (i := .illegalD3) (by decide)).decode_eq []⟩

/-! ## Fetching -/

/-- A fetch has the byte at the address, and two more unless the address space ends before them (rule R112). -/
theorem State.bytesAt_eq_cons (s : State) (a : Word) :
    ∃ more, s.bytesAt a = s.readByte a :: more ∧ more.length = min 2 (0xFFFF - a.toNat) := by
  have ha := a.isLt
  unfold State.bytesAt
  split
  · exact ⟨_, rfl, by simp; omega⟩
  · split
    · exact ⟨_, rfl, by simp; omega⟩
    · exact ⟨_, rfl, by simp; omega⟩

/-- A fetch fails exactly when the bytes do not decode. -/
theorem State.fetch_eq_error_iff (s : State) (k : FaultKind) :
    s.fetch = .error k ↔ k = .addressOutOfRange ∧ ¬ ∃ r, decode (s.bytesAt s.pc) = .ok r := by
  unfold State.fetch
  cases decode (s.bytesAt s.pc) <;> simp [eq_comm]

/-- Bytes at PC do not decode exactly when the last one the opcode needs would lie past 0xFFFF (rule R112). -/
theorem State.bytesAt_isOk_iff (s : State) :
    (∃ r, decode (s.bytesAt s.pc) = .ok r) ↔ s.pc.toNat + (opcodeLength (s.readByte s.pc) - 1) ≤ 0xFFFF := by
  obtain ⟨more, hbytes, hlen⟩ := s.bytesAt_eq_cons s.pc
  have hpc := s.pc.isLt
  have hl := opcodeLength_cases (s.readByte s.pc)
  rw [hbytes, decode_isOk_iff, List.length_cons, hlen]
  omega

/-- A failed fetch of an awake machine is a step that records the fault and does nothing else (rule R410). -/
theorem step_of_badFetch {s : State} {k : FaultKind} (hf : s.fault = none) (hs : s.asleep = false)
    (hi : (s.ime && s.pending != 0#8) = false) (h : s.fetch = .error k) : step s = .next (Claims.faulted s k) := by
  have hcpu : cpuStep s = .next (Claims.faulted s k) := by
    simp [cpuStep, State.stepKind_badFetch hf hs hi h, raised, restoreOnRaise, State.raise, Claims.faulted, State.awake]
  rw [step_of_cpuStep hcpu]
  rfl

/-- Settles O4: the bytes up to the end of the address space are as many as the opcode needs, or the fetch fails. -/
theorem fetchPastEndFaults : Obligations.FetchPastEndFaults := by
  unfold Obligations.FetchPastEndFaults
  intro s
  have hfetch (k : FaultKind) : s.fetch = .error k ↔
      (k = .addressOutOfRange ∧ 0xFFFF < s.pc.toNat + (opcodeLength (s.readByte s.pc) - 1)) := by
    rw [State.fetch_eq_error_iff, State.bytesAt_isOk_iff, Nat.not_le]
  refine ⟨hfetch, fun hpast hf hh hs hi => ?_⟩
  exact step_of_badFetch hf (by simp [State.asleep, hh, hs]) (by rcases hi with h | h <;> simp [h])
    ((hfetch _).mpr ⟨rfl, hpast⟩)

/-- A row's bytes are its encoding in the sense of the statements: cut short, they cannot be fetched. -/
theorem EncodedAs.encoded {i : Instr} {bytes : List Byte} (h : EncodedAs i bytes) : Claims.Encoded i bytes := by
  refine ⟨h.encode_eq, h.decode_eq, fun s k hk hb => ?_⟩
  obtain ⟨more, hmore, -⟩ := s.bytesAt_eq_cons s.pc
  cases bytes with
  | nil => exact absurd hk (Nat.not_lt_zero k)
  | cons b tail =>
    obtain ⟨head, hi, -, hneed⟩ := encodedAs_of_decode (h.decode_eq [])
    rw [← hi.encode_eq, h.encode_eq] at hneed
    cases k with
    | zero => cases hmore.symm.trans hb
    | succ k =>
      obtain ⟨rfl, rfl⟩ := List.cons.inj (hmore.symm.trans hb)
      refine (State.fetch_eq_error_iff s _).mpr ⟨rfl, ?_⟩
      rw [hmore, decode_isOk_iff, ← hneed]
      simp only [List.length_cons, List.length_take] at hk ⊢
      omega

end Sys2Proof.Machine

/-! PROOFS. The 8-bit loads (40_load8.md). One lemma for each shared step says the state it completes with; the rows of
O19, O20 and O21 are then an encoding and a step each. -/

namespace Sys2Proof.Machine

open Claims

theorem HasRow.exec_eq_of {i : Instr} {len : Nat} {fl : FlagDescriptor} {step : State → Result} {s : State}
    {r : Result} (hrow : HasRow i len fl step) (h : step s = r) : exec i s = r := by
  obtain ⟨-, -, hexec⟩ := hrow
  exact (hexec s).trans h

/-! ## The steps -/

theorem ldStep_completed (d r : Operand8) (cost : Nat) (s : State) :
    ldStep d r cost s = .next (completed s (s.setOperand d (s.operand r)) (s.pcNext 1) cost) :=
  plainStep_completed (by rw [State.operand_haltbug_false, State.setOperand_haltbug_false])
    (State.setOperand_ime s d _) (State.setOperand_eiArmed s d _) (State.setOperand_cycles s d _)

theorem ldImmStep_completed (d : Operand8) (n8 : Byte) (cost : Nat) (s : State) :
    ldImmStep d n8 cost s = .next (completed s (s.setOperand d n8) (s.pcNext 2) cost) :=
  plainStep_completed (State.setOperand_haltbug_false s d n8)
    (State.setOperand_ime s d n8) (State.setOperand_eiArmed s d n8) (State.setOperand_cycles s d n8)

section

variable {len cost : Nat} {address : State → Word} {s : State} {a : Word}

/-! The rule computes its address with `haltbug` cleared; no mode's address depends on it. -/

theorem loadAStep_completed (ha : address { s with haltbug := false } = a) :
    loadAStep len cost address s = .next (completed s { s with a := s.readByte a } (s.pcNext len) cost) := by
  subst ha
  exact plainStep_completed rfl rfl rfl rfl

theorem storeAStep_completed (ha : address { s with haltbug := false } = a) :
    storeAStep len cost address s = .next (completed s (s.writeByte a s.a) (s.pcNext len) cost) := by
  subst ha
  exact plainStep_completed rfl rfl rfl rfl

end

section

variable {delta v : Word} {s : State}

/-! HL moves after the access, so the address is the old HL. -/

theorem loadAMoveStep_completed (hv : s.hl + delta = v) :
    loadAMoveStep delta s =
      .next (completed s (({ s with a := s.readByte s.hl } : State).setHL v) (s.pcNext 1) 8) := by
  subst hv
  exact plainStep_completed rfl rfl rfl rfl

theorem storeAMoveStep_completed (hv : s.hl + delta = v) :
    storeAMoveStep delta s = .next (completed s ((s.writeByte s.hl s.a).setHL v) (s.pcNext 1) 8) := by
  subst hv
  exact plainStep_completed rfl rfl rfl rfl

end

/-- The I/O page address as a number: 0xFF00 plus a byte stays below 2^16 (30_encoding.md rule R121). -/
theorem ioAddress_eq_ofNat (n : Byte) : ioAddress n = .ofNat 16 (0xFF00 + n.toNat) := by
  apply BitVec.eq_of_toNat_eq
  simp [ioAddress]

/-! ## The rows -/

/-- Settles O19: a row's operands select its encoding, its step and its cost. -/
theorem loadByte : Obligations.LoadByte := by
  unfold Obligations.LoadByte
  refine ⟨fun q r => ⟨(encodedAs_ld (.reg q) (.reg r)).encoded, fun s => ?_⟩,
    fun q n8 => ⟨(encodedAs_ldImm (.reg q) n8).encoded, fun s => ?_⟩,
    fun q => ⟨(encodedAs_ld (.reg q) .atHL).encoded, fun s => ?_⟩,
    fun r => ⟨(encodedAs_ld .atHL (.reg r)).encoded, fun s => ?_⟩,
    fun n8 => ⟨(encodedAs_ldImm .atHL n8).encoded, fun s => ?_⟩⟩
  · exact (exec_ld (.reg q) (.reg r) s (.inl nofun)).trans (ldStep_completed _ _ _ s)
  · exact (exec_ldImm (.reg q) n8 s).trans (ldImmStep_completed _ _ _ s)
  · exact (exec_ld (.reg q) .atHL s (.inl nofun)).trans (ldStep_completed _ _ _ s)
  · exact (exec_ld .atHL (.reg r) s (.inr nofun)).trans (ldStep_completed _ _ _ s)
  · exact (exec_ldImm .atHL n8 s).trans (ldImmStep_completed _ _ _ s)

/-- Settles O20: every mode is the one load or the one store of A, at its own address. -/
theorem loadAIndirect : Obligations.LoadAIndirect := by
  unfold Obligations.LoadAIndirect
  intro s n8 m1 m2
  exact ⟨⟨encoded_one rfl fun _ => rfl, hasRow_ldAAtBC.exec_eq_of (loadAStep_completed rfl)⟩,
    ⟨encoded_one rfl fun _ => rfl, hasRow_ldAAtDE.exec_eq_of (loadAStep_completed rfl)⟩,
    ⟨encoded_one rfl fun _ => rfl, hasRow_ldAtBCA.exec_eq_of (storeAStep_completed rfl)⟩,
    ⟨encoded_one rfl fun _ => rfl, hasRow_ldAtDEA.exec_eq_of (storeAStep_completed rfl)⟩,
    ⟨(encodedAs_ldAAtA16 m1 m2).encoded, (hasRow_ldAAtA16 m1 m2).exec_eq_of (loadAStep_completed rfl)⟩,
    ⟨(encodedAs_ldAtA16A m1 m2).encoded, (hasRow_ldAtA16A m1 m2).exec_eq_of (storeAStep_completed rfl)⟩,
    ⟨(encodedAs_ldhAAtA8 n8).encoded,
      (hasRow_ldhAAtA8 n8).exec_eq_of (loadAStep_completed (ioAddress_eq_ofNat n8))⟩,
    ⟨(encodedAs_ldhAtA8A n8).encoded,
      (hasRow_ldhAtA8A n8).exec_eq_of (storeAStep_completed (ioAddress_eq_ofNat n8))⟩,
    ⟨encoded_one rfl fun _ => rfl, hasRow_ldAAtC.exec_eq_of (loadAStep_completed (ioAddress_eq_ofNat s.c))⟩,
    ⟨encoded_one rfl fun _ => rfl, hasRow_ldAtCA.exec_eq_of (storeAStep_completed (ioAddress_eq_ofNat s.c))⟩⟩

/-- Settles O21: HL moves by 1 or by -1, which is subtracting one. -/
theorem loadAMovingHL : Obligations.LoadAMovingHL := by
  unfold Obligations.LoadAMovingHL
  intro s
  have hdec : s.hl + -1 = s.hl - 1 := (BitVec.sub_eq_add_neg s.hl 1).symm
  exact ⟨⟨encoded_one rfl fun _ => rfl, hasRow_ldAtHLIncA.exec_eq_of (storeAMoveStep_completed rfl)⟩,
    ⟨encoded_one rfl fun _ => rfl, hasRow_ldAtHLDecA.exec_eq_of (storeAMoveStep_completed hdec)⟩,
    ⟨encoded_one rfl fun _ => rfl, hasRow_ldAAtHLInc.exec_eq_of (loadAMoveStep_completed rfl)⟩,
    ⟨encoded_one rfl fun _ => rfl, hasRow_ldAAtHLDec.exec_eq_of (loadAMoveStep_completed hdec)⟩⟩

end Sys2Proof.Machine

/-! PROOFS. The 16-bit loads and the stack (41_load16.md), with `INC rr` and `DEC rr` of 43_alu16.md. A push and a pop
are said once in the terms of the statements; each shared step then has one lemma for how it completes and, where it
can raise, one for how it raises. -/

namespace Sys2Proof.Machine

open Claims

/-! ## A rule that can raise -/

/-- A rule that makes `u` of the state, and touches none of IME, `ei_armed` and `cycles`, completes with `u`. -/
theorem instrStep_completed {len cost notTaken : Nat} {rule : State → Word → Except FaultKind Effect} {s u : State}
    (h : rule { s with haltbug := false } (s.pcNext len) = .ok { st := { u with haltbug := false } })
    (hi : u.ime = s.ime) (he : u.eiArmed = s.eiArmed) (hc : u.cycles = s.cycles) :
    instrStep len cost notTaken rule s = .next (completed s u (s.pcNext len) cost) := by
  rw [instrStep_ok h]
  simp [retire, completed, hi, he, hc]

/-! ## Register pairs -/

theorem ldPairStep_completed (p : RR) (m1 m2 : Byte) (s : State) :
    ldPairStep p m1 m2 s = .next (completed s (s.setPair p (s.imm16 m1 m2)) (s.pcNext 3) 12) :=
  plainStep_completed (s.setPair_haltbug_false p (s.imm16 m1 m2)) (s.setPair_ime p _) (s.setPair_eiArmed p _)
    (s.setPair_cycles p _)

theorem ldSPHLStep_completed (s : State) :
    ldSPHLStep s = .next (completed s { s with sp := s.hl } (s.pcNext 1) 8) :=
  plainStep_completed rfl rfl rfl rfl

theorem movePairStep_completed {p : RR} {delta v : Word} {s : State} (hv : s.pair p + delta = v) :
    movePairStep p delta s = .next (completed s (s.setPair p v) (s.pcNext 1) 8) := by
  subst hv
  exact plainStep_completed (by rw [State.pair_haltbug_false, State.setPair_haltbug_false]) (s.setPair_ime p _)
    (s.setPair_eiArmed p _) (s.setPair_cycles p _)

/-- Settles O22: a row's pair selects its encoding and its step; `DEC` adds -1, which is subtracting one. -/
theorem pairMoves : Obligations.PairMoves := by
  unfold Obligations.PairMoves
  refine ⟨fun p m1 m2 => ⟨(encodedAs_ldPair p m1 m2).encoded, fun s => ?_⟩,
    ⟨encoded_one rfl fun _ => rfl, fun s => hasRow_ldSPHL.exec_eq_of (ldSPHLStep_completed s)⟩,
    fun p => ⟨(encodedAs_incPair p).encoded, fun s => ?_⟩, fun p => ⟨(encodedAs_decPair p).encoded, fun s => ?_⟩⟩
  · exact (exec_ldPair p m1 m2 s).trans (ldPairStep_completed p m1 m2 s)
  · exact (exec_incPair p s).trans (movePairStep_completed rfl)
  · exact (exec_decPair p s).trans (movePairStep_completed (BitVec.sub_eq_add_neg (s.pair p) 1).symm)

/-! ## `LD (a16),SP` -/

@[simp] theorem State.imm16_haltbug_false (s : State) (m1 m2 : Byte) :
    ({ s with haltbug := false } : State).imm16 m1 m2 = s.imm16 m1 m2 := rfl

theorem storeSPStep_completed {m1 m2 : Byte} {s : State} (h : s.imm16 m1 m2 ≠ 0xFFFF#16) :
    storeSPStep m1 m2 s =
      .next (completed s
        (s.writeBytes [(s.imm16 m1 m2, lowerByte s.cfg.wordOrder s.sp),
          (s.imm16 m1 m2 + 1, upperByte s.cfg.wordOrder s.sp)])
        (s.pcNext 3) 20) := by
  have hw := ({ s with haltbug := false } : State).writeWordUp_of_ne (a := s.imm16 m1 m2) s.sp h
  refine instrStep_completed ?_ rfl rfl rfl
  rw [State.imm16_haltbug_false, hw]
  rfl

theorem storeSPStep_faulted {m1 m2 : Byte} {s : State} (h : s.imm16 m1 m2 = 0xFFFF#16) :
    storeSPStep m1 m2 s = .next (faulted s .addressOutOfRange) := by
  have hw := ({ s with haltbug := false } : State).writeWordUp_eq (s.imm16 m1 m2) s.sp
  rw [if_pos h] at hw
  refine instrStep_error ?_
  rw [State.imm16_haltbug_false, hw]

/-- Settles O23: a store of a word is two byte writes, and on the default `BUS` these read back. -/
theorem storeSP : Obligations.StoreSP := by
  unfold Obligations.StoreSP
  intro m1 m2
  refine ⟨(encodedAs_ldAtA16SP m1 m2).encoded, fun s => ⟨fun h => ?_, fun h => ?_⟩⟩
  · refine ⟨_, (hasRow_ldAtA16SP m1 m2).exec_eq_of (storeSPStep_completed h), rfl, fun hb => ⟨fun hw => ?_, ?_⟩⟩
    · exact State.readByte_writeBytes_word hb hw _ _ _
    · intro a h1 h2
      exact State.readByte_writeBytes_other _ hb fun hm => (List.mem_pair.mp hm).elim h1 h2
  · exact (hasRow_ldAtA16SP m1 m2).exec_eq_of (storeSPStep_faulted h)

/-! ## Pushing and popping a word (41_load16.md rule R219) -/

theorem State.push16_of_ne {s : State} (v : Word) (h : s.sp ≠ 0x0001#16) : s.push16 v = .ok (pushed s v) := by
  rw [State.push16_eq, if_neg h]
  rfl

theorem State.push16_of_eq {s : State} (v : Word) (h : s.sp = 0x0001#16) : s.push16 v = .error .addressOutOfRange := by
  rw [State.push16_eq, if_pos h]

theorem State.pop16_of_ne {s : State} (h : s.sp ≠ 0xFFFF#16) :
    s.pop16 = .ok (wordAt s s.sp, { s with sp := s.sp + 2 }) := by
  rw [State.pop16_eq, if_neg h, wordOfBytes_eq_wordAt]

theorem State.pop16_of_eq {s : State} (h : s.sp = 0xFFFF#16) : s.pop16 = .error .addressOutOfRange := by
  rw [State.pop16_eq, if_pos h]

@[simp] theorem pushed_sp (s : State) (v : Word) : (pushed s v).sp = s.sp - 2 := rfl

theorem sub_one_ne_sub_two (a : Word) : a - 1 ≠ a - 2 := by
  rw [← sub_two_add_one]
  exact succ_ne (a - 2)

section

variable {s : State} (hb : s.cfg.bus = .flat)
include hb

/-! On the default `BUS` the bytes of a pushed word read back. -/

theorem readByte_pushed_lower (hw : Memory.wf s.mem = true) (v : Word) :
    (pushed s v).readByte (s.sp - 2) = lowerByte s.cfg.wordOrder v :=
  State.readByte_writeByte_same (s := s.writeByte _ _) hb (State.writeByte_wf hw _ _) _ _

theorem readByte_pushed_upper (hw : Memory.wf s.mem = true) (v : Word) :
    (pushed s v).readByte (s.sp - 1) = upperByte s.cfg.wordOrder v :=
  (State.readByte_writeByte_other (s := s.writeByte _ _) hb _ (sub_one_ne_sub_two s.sp)).trans
    (State.readByte_writeByte_same hb hw _ _)

theorem readByte_pushed_other (v : Word) {a : Word} (h2 : a ≠ s.sp - 2) (h1 : a ≠ s.sp - 1) :
    (pushed s v).readByte a = s.readByte a :=
  (State.readByte_writeByte_other (s := s.writeByte _ _) hb _ h2).trans (State.readByte_writeByte_other hb _ h1)

theorem wordAt_pushed (hw : Memory.wf s.mem = true) (v : Word) : wordAt (pushed s v) (s.sp - 2) = v := by
  rw [← wordOfBytes_eq_wordAt, sub_two_add_one, readByte_pushed_lower hb hw, readByte_pushed_upper hb hw]
  exact wordOfBytes_lower_upper s.cfg.wordOrder v

theorem pop16_pushed (hw : Memory.wf s.mem = true) (v : Word) (h : s.sp ≠ 0x0001#16) :
    (pushed s v).pop16 = .ok (v, { pushed s v with sp := s.sp - 2 + 2 }) := by
  rw [State.pop16_of_ne (s := pushed s v) (mt (sub_two_eq_iff s.sp).mp h), pushed_sp, wordAt_pushed hb hw]

end

/-! ## `PUSH` and `POP` -/

theorem pushStep_completed {q : QQ} {s : State} (h : s.sp ≠ 0x0001#16) :
    pushStep q s = .next (completed s (pushed s (s.stackPair q)) (s.pcNext 1) 16) := by
  have hp := State.push16_of_ne (s := { s with haltbug := false }) (s.stackPair q) h
  refine instrStep_completed ?_ rfl rfl rfl
  rw [State.stackPair_haltbug_false, hp]
  rfl

theorem pushStep_faulted {q : QQ} {s : State} (h : s.sp = 0x0001#16) :
    pushStep q s = .next (faulted s .addressOutOfRange) := by
  have hp := State.push16_of_eq (s := { s with haltbug := false }) (s.stackPair q) h
  refine instrStep_error ?_
  rw [State.stackPair_haltbug_false, hp]

theorem popStep_completed {q : QQ} {s : State} (h : s.sp ≠ 0xFFFF#16) :
    popStep q s =
      .next (completed s (({ s with sp := s.sp + 2 } : State).setStackPair q (wordAt s s.sp)) (s.pcNext 1) 12) := by
  refine instrStep_completed ?_ (State.setStackPair_ime _ q _) (State.setStackPair_eiArmed _ q _)
    (State.setStackPair_cycles _ q _)
  rw [State.pop16_of_ne (s := { s with haltbug := false }) h, ← State.setStackPair_haltbug_false]
  rfl

theorem popStep_faulted {q : QQ} {s : State} (h : s.sp = 0xFFFF#16) :
    popStep q s = .next (faulted s .addressOutOfRange) := by
  refine instrStep_error ?_
  rw [State.pop16_of_eq (s := { s with haltbug := false }) h]

/-- Settles O25: a push is two byte writes below SP, and on the default `BUS` these read back. -/
theorem pushStoresPair : Obligations.PushStoresPair := by
  unfold Obligations.PushStoresPair
  refine fun q => ⟨(encodedAs_push q).encoded, fun s => ⟨fun h => ?_, fun h => ?_⟩⟩
  · exact ⟨_, (exec_push q s).trans (pushStep_completed h), rfl, fun hb =>
      ⟨fun hw => ⟨readByte_pushed_lower hb hw _, readByte_pushed_upper hb hw _⟩,
        fun a h2 h1 => readByte_pushed_other hb _ h2 h1⟩⟩
  · exact (exec_push q s).trans (pushStep_faulted h)

/-- F takes the high nibble of the low byte (10_state.md rule R33). -/
theorem State.af_setAF (s : State) (v : Word) : (s.setAF v).af = v &&& 0xFFF0#16 := by
  show hiByte v ++ (loByte v &&& 0xF0#8) = v &&& 0xFFF0#16
  have hmask : v &&& 0xFFF0#16 = (hiByte v ++ loByte v) &&& (0xFF#8 ++ 0xF0#8) :=
    congrArg (· &&& 0xFFF0#16) (joinBytes_hiByte_loByte v).symm
  rw [hmask, BitVec.and_append, show hiByte v &&& 0xFF#8 = hiByte v from BitVec.and_allOnes]

/-- Settles O26: the pair reads back as the word it was given, with the low nibble masked for AF. -/
theorem popLoadsPair : Obligations.PopLoadsPair := by
  unfold Obligations.PopLoadsPair
  refine fun q => ⟨(encodedAs_pop q).encoded, fun s => ⟨fun h => ?_, fun h => ?_⟩⟩
  · refine ⟨_, (exec_pop q s).trans (popStep_completed h), State.setStackPair_sp _ q _, State.setStackPair_mem _ q _,
      State.setStackPair_device _ q _, ?_⟩
    cases q with
    | bc => exact ⟨rfl, State.bc_setBC _ _⟩
    | de => exact ⟨rfl, State.de_setDE _ _⟩
    | hl => exact ⟨rfl, State.hl_setHL _ _⟩
    | af => exact ⟨rfl, State.af_setAF _ _⟩
  · exact (exec_pop q s).trans (popStep_faulted h)

theorem State.stackPair_setStackPair (s : State) (q : QQ) (v : Word) :
    (s.setStackPair q v).stackPair q = if q = .af then v &&& 0xFFF0#16 else v := by
  cases q with
  | bc => exact s.bc_setBC v
  | de => exact s.de_setDE v
  | hl => exact s.hl_setHL v
  | af => exact s.af_setAF v

/-! The end of an instruction step stands apart from the pairs, SP and memory. -/

@[simp] theorem stackPair_completed (s u : State) (pc : Word) (cost : Nat) (q : QQ) :
    (completed s u pc cost).stackPair q = u.stackPair q := by
  cases q <;> rfl

@[simp] theorem completed_sp (s u : State) (pc : Word) (cost : Nat) : (completed s u pc cost).sp = u.sp := rfl

@[simp] theorem wordAt_completed (s u : State) (pc : Word) (cost : Nat) (a : Word) :
    wordAt (completed s u pc cost) a = wordAt u a := rfl

/-- Settles O27: SP moves down past the two bytes of the word and back up, and the word at the new SP is the one
pushed. -/
theorem pushThenPop : Obligations.PushThenPop := by
  unfold Obligations.PushThenPop
  intro s
  refine ⟨fun v h => ⟨_, State.push16_of_ne v h, rfl⟩,
    fun v hb hw h => ⟨_, _, State.push16_of_ne v h, pop16_pushed hb hw v h, sub_two_add_two s.sp⟩,
    fun v h => State.push16_of_eq v h, fun h => ⟨_, _, State.pop16_of_ne h, rfl⟩, State.pop16_of_eq,
    fun p q hb hw h => ?_⟩
  have hsp : s.sp - 2 ≠ 0xFFFF#16 := mt (sub_two_eq_iff s.sp).mp h
  refine ⟨_, _, (exec_push p s).trans (pushStep_completed h), (exec_pop q _).trans (popStep_completed hsp), rfl,
    (State.setStackPair_sp _ q _).trans (sub_two_add_two s.sp), ?_⟩
  simp only [stackPair_completed, State.stackPair_setStackPair, wordAt_completed, completed_sp, pushed_sp,
    wordAt_pushed hb hw]

end Sys2Proof.Machine

/-! PROOFS. 8-bit arithmetic and logic (42_alu8.md). One lemma for each shared step says the state it completes with;
the rows of O29 to O33 and O35 are then an encoding and a step each. The decimal claim O34 is arithmetic on digits. -/

namespace Sys2Proof.Machine

open Claims

/-! ## The ALU operations on A -/

/-- A and F take what an ALU operation computed. -/
def State.writeAlu (s : State) (w : AluWrite) : State := ({ s with a := w.a } : State).setFlags w.z w.n w.h w.c

theorem aluStep_completed {op : AluOp} {effect : State → Byte → State}
    (h : ∀ s v, s.writeAlu (aluCompute op s.a v s.flagC) = effect s v) {len cost : Nat} {source : State → Byte}
    {s : State} {v : Byte} (hv : source { s with haltbug := false } = v) :
    aluStep op len cost source s = .next (completed s (effect s v) (s.pcNext len) cost) := by
  rw [← h, ← hv]
  exact plainStep_completed rfl rfl rfl rfl

/-- The three operand forms of an ALU operation differ in encoding, operand byte and cost alone. -/
theorem aluForms_of_compute {op : AluOp} {effect : State → Byte → State}
    (h : ∀ s v, s.writeAlu (aluCompute op s.a v s.flagC) = effect s v) : AluForms op effect := by
  refine ⟨fun r => ⟨(encodedAs_alu op (.reg r)).encoded, fun s => ?_⟩,
    ⟨(encodedAs_alu op .atHL).encoded, fun s => ?_⟩, fun n8 => ⟨(encodedAs_aluImm op n8).encoded, fun s => ?_⟩⟩
  · exact (exec_alu op (.reg r) s).trans (aluStep_completed h (s.operand_haltbug_false (.reg r)))
  · exact (exec_alu op .atHL s).trans (aluStep_completed h (s.operand_haltbug_false .atHL))
  · exact (exec_aluImm op n8 s).trans (aluStep_completed h rfl)

theorem writeAlu_add (s : State) (v : Byte) : s.writeAlu (aluCompute .add s.a v s.flagC) = addInto s v false := by
  simp only [aluCompute, add8_eq]
  rfl

theorem writeAlu_adc (s : State) (v : Byte) : s.writeAlu (aluCompute .adc s.a v s.flagC) = addInto s v s.flagC := by
  simp only [aluCompute, add8_eq]
  rfl

theorem writeAlu_sub (s : State) (v : Byte) : s.writeAlu (aluCompute .sub s.a v s.flagC) = subFrom s v false := by
  simp only [aluCompute, sub8_eq]
  rfl

theorem writeAlu_sbc (s : State) (v : Byte) : s.writeAlu (aluCompute .sbc s.a v s.flagC) = subFrom s v s.flagC := by
  simp only [aluCompute, sub8_eq]
  rfl

/-- A difference is zero exactly when the bytes are equal. -/
theorem writeAlu_cp (s : State) (v : Byte) : s.writeAlu (aluCompute .cp s.a v s.flagC) = compareWith s v := by
  have hz : (s.a - v - carryByte false == 0#8) = (s.a == v) := by
    rw [Bool.eq_iff_iff, beq_iff_eq, beq_iff_eq, show carryByte false = 0 from rfl, sub_zero]
    exact sub_eq_zero
  simp only [aluCompute, sub8_eq, hz]
  rfl

/-- Settles O29: the sum of bytes is that of rule R228, with the old C as its carry for `ADC`. -/
theorem addAndAdc : Obligations.AddAndAdc := by
  unfold Obligations.AddAndAdc
  exact ⟨aluForms_of_compute writeAlu_add, aluForms_of_compute writeAlu_adc⟩

/-- Settles O30: the difference of bytes is that of rule R229, with the old C as its borrow for `SBC`. -/
theorem subSbcAndCp : Obligations.SubSbcAndCp := by
  unfold Obligations.SubSbcAndCp
  exact ⟨aluForms_of_compute writeAlu_sub, aluForms_of_compute writeAlu_sbc, aluForms_of_compute writeAlu_cp⟩

/-- Settles O31: the bitwise result and its flags are the rules' own. -/
theorem andXorOr : Obligations.AndXorOr := by
  unfold Obligations.AndXorOr
  exact ⟨aluForms_of_compute fun _ _ => rfl, aluForms_of_compute fun _ _ => rfl, aluForms_of_compute fun _ _ => rfl⟩

/-! ## `INC` and `DEC` -/

theorem incStep_completed (o : Operand8) (cost : Nat) (s : State) :
    incStep o cost s =
      .next (completed s
        ((s.setOperand o (s.operand o + 1)).setFlags (s.operand o == 0xFF#8) false (s.operand o &&& 0x0F#8 == 0x0F#8)
          s.flagC)
        (s.pcNext 1) cost) := by
  refine plainStep_completed ?_ (State.setOperand_ime s o _) (State.setOperand_eiArmed s o _)
    (State.setOperand_cycles s o _)
  rw [State.operand_haltbug_false, add8_one]
  dsimp only
  rw [State.setOperand_haltbug_false]
  rfl

theorem decStep_completed (o : Operand8) (cost : Nat) (s : State) :
    decStep o cost s =
      .next (completed s
        ((s.setOperand o (s.operand o - 1)).setFlags (s.operand o == 0x01#8) true (s.operand o &&& 0x0F#8 == 0x00#8)
          s.flagC)
        (s.pcNext 1) cost) := by
  refine plainStep_completed ?_ (State.setOperand_ime s o _) (State.setOperand_eiArmed s o _)
    (State.setOperand_cycles s o _)
  rw [State.operand_haltbug_false, sub8_one]
  dsimp only
  rw [State.setOperand_haltbug_false]
  rfl

/-- Settles O32: a row's operand selects its encoding, its step and its cost. -/
theorem incAndDecByte : Obligations.IncAndDecByte := by
  unfold Obligations.IncAndDecByte
  refine ⟨fun r => ⟨(encodedAs_inc (.reg r)).encoded, (encodedAs_dec (.reg r)).encoded, fun s => ⟨?_, ?_⟩⟩,
    (encodedAs_inc .atHL).encoded, (encodedAs_dec .atHL).encoded, fun s => ⟨?_, ?_⟩⟩
  · exact (exec_inc (.reg r) s).trans (incStep_completed (.reg r) 4 s)
  · exact (exec_dec (.reg r) s).trans (decStep_completed (.reg r) 4 s)
  · exact (exec_inc .atHL s).trans (incStep_completed .atHL 12 s)
  · exact (exec_dec .atHL s).trans (decStep_completed .atHL 12 s)

/-! ## `DAA` -/

theorem ofInt_emod_256 (x : Int) : BitVec.ofInt 8 (x % 256) = BitVec.ofInt 8 x := by
  apply BitVec.eq_of_toNat_eq
  simp [BitVec.toNat_ofInt]

theorem ofInt_beq_zero (x : Int) : (BitVec.ofInt 8 x == 0#8) = (x % 256 == 0) := by
  rw [Bool.eq_iff_iff, beq_iff_eq, beq_iff_eq, ← BitVec.toNat_inj, BitVec.toNat_ofInt, BitVec.toNat_ofNat]
  omega

/-- `DAA` corrects by the pseudocode's steps on integers and narrows at the end (rule R258). -/
theorem daaCompute_eq (a : Byte) (n h c : Bool) :
    daaCompute a n h c = (.ofInt 8 (daaSteps a.toNat n h c).1, (daaSteps a.toNat n h c).2) := by
  cases n with
  | true => cases h <;> cases c <;> simp [daaCompute, daaSteps]
  | false =>
    simp only [daaCompute, daaSteps, ← BitVec.ofInt_natCast, Bool.or_eq_true, decide_eq_true_eq, if_true, add_ite,
      add_zero, Bool.false_eq_true, if_false]
    norm_cast
    by_cases hhigh : c = true ∨ 0x99 < a.toNat
    · simp [hhigh]
    · obtain ⟨hc, ha⟩ := not_or.mp hhigh
      simp [hc, ha]

/-- A and C by the steps of rule R258 on the integer A, before the reduction mod 256. -/
def State.adjusted (s : State) : Int × Bool := daaSteps s.a.toNat s.flagN s.flagH s.flagC

theorem daaStep_completed (s : State) :
    daaStep s =
      .next (completed s
        (({ s with a := .ofInt 8 (s.adjusted.1 % 256) } : State).setFlags (s.adjusted.1 % 256 == 0) s.flagN false
          s.adjusted.2)
        (s.pcNext 1) 4) := by
  rw [ofInt_emod_256, ← ofInt_beq_zero]
  refine plainStep_completed ?_ rfl rfl rfl
  rw [daaCompute_eq]
  rfl

/-- Settles O33: the step's A and C are those of the rule's steps. -/
theorem decimalAdjust : Obligations.DecimalAdjust := by
  unfold Obligations.DecimalAdjust
  exact ⟨encoded_one rfl fun _ => rfl, fun s => hasRow_daa.exec_eq_of (daaStep_completed s)⟩

/-! ## Decimal arithmetic

Numbers below 100 are added and subtracted column by column: `p` is the tens column's sum or difference and `q` the
units'. The decimal result is `10 * p + q`; the ALU, working in base 16, computes `16 * p + q`. -/

/-- The adjusted A is the decimal digits of `r`, and the adjusted C is `c`. -/
def LeavesDecimal (x : Int × Bool) (r : Nat) (c : Bool) : Prop := x.1 % 256 = r / 10 * 16 + r % 10 ∧ x.2 = c

/-- `DAA` after an instruction that leaves something to adjust. -/
theorem exec_then_daa {i : Instr} {s t : State} {pc : Word} {cost r : Nat} {c : Bool}
    (hi : exec i s = .next (completed s t pc cost)) (h : LeavesDecimal t.adjusted r c) :
    ∃ t u, exec i s = .next t ∧ exec .daa t = .next u ∧ u.a = bcd r ∧ u.flagC = c := by
  obtain ⟨hr, hc⟩ := h
  refine ⟨_, _, hi, hasRow_daa.exec_eq_of (daaStep_completed _), ?_, (packFlags_bit4 _ _ _ _).trans hc⟩
  show BitVec.ofInt 8 (t.adjusted.1 % 256) = bcd r
  rw [hr, bcd, ← BitVec.ofInt_natCast]
  push_cast
  rfl

/-- A carry out of the units column is worth 10 in decimal and 16 in base 16, so 6 corrects it; one out of the tens
column is worth 0x60 more. A borrow is a carry of -1. -/
theorem decimal_correction (p q : Int) (r : Nat) (hr : (10 * p + q) % 100 = r) :
    (16 * p + q + 0x06 * (q / 10) + 0x60 * ((10 * p + q) / 100)) % 256 = r / 10 * 16 + r % 10 := by
  omega

section

variable {p q : Int} {r : Nat} {c : Prop} [Decidable c] (hr : (10 * p + q) % 100 = r)
include hr

/-- After an addition a carry shows as a digit past 9, or as H or C. -/
theorem daaSteps_of_sum (hp0 : 0 ≤ p) (hp : p ≤ 18) (hq0 : 0 ≤ q) (hq : q ≤ 18) (hc : 100 ≤ 10 * p + q ↔ c) :
    LeavesDecimal (daaSteps ((16 * p + q) % 256) false (decide (0xF < q)) (decide (0xFF < 16 * p + q))) r
      (decide c) := by
  have hunits : q / 10 = if 9 < q then 1 else 0 := by split_ifs <;> omega
  have htens : (10 * p + q) / 100 = if 0x99 < 16 * p + q then 1 else 0 := by split_ifs <;> omega
  rw [LeavesDecimal, ← decimal_correction p q r hr, hunits, htens]
  simp only [daaSteps, if_true, decide_eq_true_eq]
  constructor
  · split_ifs <;> omega
  · split_ifs <;> simp [← hc] <;> omega

/-- After a subtraction the borrows are H and C. -/
theorem daaSteps_of_difference (hp0 : -9 ≤ p) (hp : p ≤ 9) (hq0 : -9 ≤ q) (hq : q ≤ 9) (hc : 10 * p + q < 0 ↔ c) :
    LeavesDecimal (daaSteps ((16 * p + q) % 256) true (decide (q < 0)) (decide (16 * p + q < 0))) r (decide c) := by
  have hunits : q / 10 = if q < 0 then -1 else 0 := by split_ifs <;> omega
  have htens : (10 * p + q) / 100 = if 16 * p + q < 0 then -1 else 0 := by split_ifs <;> omega
  rw [LeavesDecimal, ← decimal_correction p q r hr, hunits, htens]
  simp only [daaSteps, decide_eq_true_eq, Bool.true_eq_false, if_false]
  constructor
  · split_ifs <;> omega
  · rw [decide_eq_decide, ← hc]
    omega

end

theorem bcd_toNat {n : Nat} (h : n < 100) : (bcd n).toNat = 16 * (n / 10) + n % 10 := by
  rw [bcd, BitVec.toNat_ofNat]
  omega

section

variable {s : State} {x y : Nat} (hx : x < 100) (hy : y < 100) (hs : s.a = bcd x)
include hx hy hs

theorem addInto_bcd_leavesDecimal :
    LeavesDecimal (addInto s (bcd y) false).adjusted ((x + y) % 100) (decide (100 ≤ x + y)) := by
  have ha : ((addInto s (bcd y) false).a.toNat : Int) = (16 * (x / 10 + y / 10) + (x % 10 + y % 10)) % 256 := by
    show (((s.a + bcd y + 0#8).toNat : Nat) : Int) = _
    rw [BitVec.add_zero, BitVec.toNat_add, hs, bcd_toNat hx, bcd_toNat hy]
    omega
  have hh : (addInto s (bcd y) false).flagH = decide ((0xF : Int) < x % 10 + y % 10) := by
    rw [addInto, State.flagH_setFlags, hs, bcd_toNat hx, bcd_toNat hy, Bool.toNat_false, decide_eq_decide]
    omega
  have hc : (addInto s (bcd y) false).flagC =
      decide ((0xFF : Int) < 16 * (x / 10 + y / 10) + (x % 10 + y % 10)) := by
    rw [addInto, State.flagC_setFlags, hs, bcd_toNat hx, bcd_toNat hy, Bool.toNat_false, decide_eq_decide]
    omega
  rw [State.adjusted, ha, hh, hc, addInto, State.flagN_setFlags]
  apply daaSteps_of_sum <;> omega

theorem subFrom_bcd_leavesDecimal :
    LeavesDecimal (subFrom s (bcd y) false).adjusted ((x + 100 - y) % 100) (decide (x < y)) := by
  have ha : ((subFrom s (bcd y) false).a.toNat : Int) = (16 * (x / 10 - y / 10) + (x % 10 - y % 10)) % 256 := by
    show (((s.a - bcd y - 0#8).toNat : Nat) : Int) = _
    rw [BitVec.sub_zero, BitVec.toNat_sub, hs, bcd_toNat hx, bcd_toNat hy]
    omega
  have hh : (subFrom s (bcd y) false).flagH = decide ((x % 10 - y % 10 : Int) < 0) := by
    rw [subFrom, State.flagH_setFlags, hs, bcd_toNat hx, bcd_toNat hy, Bool.toNat_false, decide_eq_decide]
    omega
  have hc : (subFrom s (bcd y) false).flagC = decide ((16 * (x / 10 - y / 10) + (x % 10 - y % 10) : Int) < 0) := by
    rw [subFrom, State.flagC_setFlags, hs, bcd_toNat hx, bcd_toNat hy, Bool.toNat_false, decide_eq_decide]
    omega
  rw [State.adjusted, ha, hh, hc, subFrom, State.flagN_setFlags]
  apply daaSteps_of_difference <;> omega

end

/-- Settles O34: base 16 and base 10 differ by the carries, which `DAA` finds in the digits and the flags. -/
theorem daaMakesDecimal : Obligations.DaaMakesDecimal := by
  unfold Obligations.DaaMakesDecimal
  intro s x y hx hy hs
  have hadd := (exec_aluImm .add (bcd y) s).trans (aluStep_completed writeAlu_add rfl)
  have hsub := (exec_aluImm .sub (bcd y) s).trans (aluStep_completed writeAlu_sub rfl)
  exact ⟨exec_then_daa hadd (addInto_bcd_leavesDecimal hx hy hs),
    exec_then_daa hsub (subFrom_bcd_leavesDecimal hx hy hs)⟩

/-! ## `CPL`, `SCF` and `CCF` -/

/-- Settles O35: the three rows write A and F alone. -/
theorem complementAndCarry : Obligations.ComplementAndCarry := by
  unfold Obligations.ComplementAndCarry
  exact ⟨encoded_one rfl fun _ => rfl, encoded_one rfl fun _ => rfl, encoded_one rfl fun _ => rfl, fun s =>
    ⟨hasRow_cpl.exec_eq_of (plainStep_completed rfl rfl rfl rfl),
      hasRow_scf.exec_eq_of (plainStep_completed rfl rfl rfl rfl),
      hasRow_ccf.exec_eq_of (plainStep_completed rfl rfl rfl rfl)⟩⟩

end Sys2Proof.Machine

/-! PROOFS. 16-bit arithmetic (43_alu16.md), with `LD HL,SP+r8` of 41_load16.md. `INC rr` and `DEC rr` stand with the
16-bit loads. One lemma for each shared step says the state it completes with. -/

namespace Sys2Proof.Machine

open Claims

theorem addHLStep_completed (p : RR) (s : State) :
    addHLStep p s =
      .next (completed s
        ((s.setHL (s.hl + s.pair p)).setFlags s.flagZ false
          (decide (0x0FFF < s.hl.toNat % 0x1000 + (s.pair p).toNat % 0x1000))
          (decide (0xFFFF < s.hl.toNat + (s.pair p).toNat)))
        (s.pcNext 1) 8) := by
  refine plainStep_completed ?_ rfl rfl rfl
  rw [State.pair_haltbug_false, addHLCompute_eq]
  rfl

/-- Settles O36: a row's pair selects its encoding and its step, whose sum is that of rule R263. -/
theorem addHL : Obligations.AddHL := by
  unfold Obligations.AddHL
  exact fun p => ⟨(encodedAs_addHL p).encoded, fun s => (exec_addHL p s).trans (addHLStep_completed p s)⟩

/-! ## SP plus a signed byte -/

theorem addSPStep_completed (n8 : Byte) (s : State) :
    addSPStep n8 s =
      .next (completed s
        (({ s with sp := s.sp + n8.signExtend 16 } : State).setFlags false false
          (decide (0xF < s.sp.toNat % 16 + n8.toNat % 16)) (decide (0xFF < s.sp.toNat % 256 + n8.toNat)))
        (s.pcNext 2) 16) := by
  refine plainStep_completed ?_ rfl rfl rfl
  rw [spaddCompute_eq]
  rfl

/-- The step writes the flags before HL; they are apart, so this is HL before the flags. -/
theorem ldHLSPStep_completed (n8 : Byte) (s : State) :
    ldHLSPStep n8 s =
      .next (completed s
        ((s.setHL (s.sp + n8.signExtend 16)).setFlags false false
          (decide (0xF < s.sp.toNat % 16 + n8.toNat % 16)) (decide (0xFF < s.sp.toNat % 256 + n8.toNat)))
        (s.pcNext 2) 12) := by
  refine plainStep_completed ?_ rfl rfl rfl
  rw [spaddCompute_eq]
  rfl

/-- Settles O24: both rows take the sum and the flags of rule R262, and differ in where the sum goes and in cost. -/
theorem addToSP : Obligations.AddToSP := by
  unfold Obligations.AddToSP
  exact fun n8 => ⟨(encodedAs_addSPR8 n8).encoded, (encodedAs_ldHLSPR8 n8).encoded, fun s =>
    ⟨(hasRow_addSPR8 n8).exec_eq_of (addSPStep_completed n8 s),
      (hasRow_ldHLSPR8 n8).exec_eq_of (ldHLSPStep_completed n8 s)⟩⟩

end Sys2Proof.Machine

/-! PROOFS. Rotates, shifts and `SWAP` (44_rotate_shift.md). One lemma for each shared step says the state it completes
with, by the shift unit's table. -/

namespace Sys2Proof.Machine

open Claims

/-! ## Rotates of A -/

theorem rotateAStep_completed (op : ShiftOp) (s : State) :
    rotateAStep op s =
      .next (completed s
        (({ s with a := (shiftResult op s.a s.flagC).1 } : State).setFlags false false false
          (shiftResult op s.a s.flagC).2)
        (s.pcNext 1) 4) := by
  refine plainStep_completed ?_ rfl rfl rfl
  rw [shiftCompute_eq]
  rfl

/-! The statement of O37 says its first two results as rotations, the table as two shifts. -/

theorem shiftResult_rlc (v : Byte) (c : Bool) : shiftResult .rlc v c = (v.rotateLeft 1, v.getLsbD 7) := by
  rw [BitVec.rotateLeft_def]
  rfl

theorem shiftResult_rrc (v : Byte) (c : Bool) : shiftResult .rrc v c = (v.rotateRight 1, v.getLsbD 0) := by
  rw [BitVec.rotateRight_def]
  rfl

/-- Settles O37: the four rows are the shift unit on A; its table's columns for `RLC` and `RRC` are rotations. -/
theorem rotateA : Obligations.RotateA := by
  unfold Obligations.RotateA
  refine ⟨encoded_one rfl fun _ => rfl, encoded_one rfl fun _ => rfl, encoded_one rfl fun _ => rfl,
    encoded_one rfl fun _ => rfl, fun s => ⟨hasRow_rlca.exec_eq_of ?_, hasRow_rrca.exec_eq_of ?_,
      hasRow_rla.exec_eq_of (rotateAStep_completed .rl s), hasRow_rra.exec_eq_of (rotateAStep_completed .rr s)⟩⟩
  · rw [rotateAStep_completed, shiftResult_rlc]
  · rw [rotateAStep_completed, shiftResult_rrc]

/-! ## The CB rotates, shifts and `SWAP` -/

theorem shiftStep_completed (op : ShiftOp) (o : Operand8) (cost : Nat) (s : State) :
    shiftStep op o cost s =
      .next (completed s
        ((s.setOperand o (shiftResult op (s.operand o) s.flagC).1).setFlags
          ((shiftResult op (s.operand o) s.flagC).1 == 0#8) false false (shiftResult op (s.operand o) s.flagC).2)
        (s.pcNext 2) cost) := by
  refine plainStep_completed ?_ (State.setOperand_ime s o _) (State.setOperand_eiArmed s o _)
    (State.setOperand_cycles s o _)
  rw [State.operand_haltbug_false, shiftCompute_eq]
  dsimp only
  rw [State.setOperand_haltbug_false]
  rfl

/-- Settles O38: a row's operand selects its encoding, its step and its cost. -/
theorem shiftRegister : Obligations.ShiftRegister := by
  unfold Obligations.ShiftRegister
  refine fun op => ⟨fun r => ⟨(encodedAs_shift op (.reg r)).encoded, fun s => ?_⟩,
    (encodedAs_shift op .atHL).encoded, fun s => ?_⟩
  · exact (exec_shift op (.reg r) s).trans (shiftStep_completed op (.reg r) 8 s)
  · exact (exec_shift op .atHL s).trans (shiftStep_completed op .atHL 16 s)

end Sys2Proof.Machine

/-! PROOFS. Bit test, set and reset (45_bit.md). `BIT` reads its operand and writes F alone; `RES` and `SET` both put a
byte made from the operand back in its place, and differ only in that byte. -/

namespace Sys2Proof.Machine

open Claims

theorem bitStep_completed (b : Nat) (o : Operand8) (cost : Nat) (s : State) :
    bitStep b o cost s =
      .next (completed s (s.setFlags (!(s.operand o).getLsbD b) false true s.flagC) (s.pcNext 2) cost) := by
  refine plainStep_completed ?_ rfl rfl rfl
  rw [State.operand_haltbug_false]
  rfl

/-- A step that replaces its operand by a function `g` of it. -/
theorem plainStep_setOperand_completed (g : Byte → Byte) (len cost : Nat) (o : Operand8) (s : State) :
    plainStep len cost (fun s => s.setOperand o (g (s.operand o))) s =
      .next (completed s (s.setOperand o (g (s.operand o))) (s.pcNext len) cost) :=
  plainStep_completed (by rw [State.operand_haltbug_false, State.setOperand_haltbug_false])
    (State.setOperand_ime s o _) (State.setOperand_eiArmed s o _) (State.setOperand_cycles s o _)

theorem resStep_completed (b : Nat) (o : Operand8) (cost : Nat) (s : State) :
    resStep b o cost s = .next (completed s (s.setOperand o (clearBit (s.operand o) b)) (s.pcNext 2) cost) :=
  plainStep_setOperand_completed (clearBit · b) 2 cost o s

theorem setStep_completed (b : Nat) (o : Operand8) (cost : Nat) (s : State) :
    setStep b o cost s = .next (completed s (s.setOperand o (setBit (s.operand o) b)) (s.pcNext 2) cost) :=
  plainStep_setOperand_completed (setBit · b) 2 cost o s

/-- Settles O39: a row's bit and operand select its encoding, its step and its cost. -/
theorem testBit : Obligations.TestBit := by
  unfold Obligations.TestBit
  refine fun b => ⟨fun r => ⟨(encodedAs_bit b (.reg r)).encoded, fun s => ?_⟩,
    (encodedAs_bit b .atHL).encoded, fun s => ?_⟩
  · exact (exec_bit b (.reg r) s).trans (bitStep_completed b (.reg r) 8 s)
  · exact (exec_bit b .atHL s).trans (bitStep_completed b .atHL 12 s)

/-- Settles O40: the byte put back is the operand with bit `b` cleared or set. -/
theorem resetAndSetBit : Obligations.ResetAndSetBit := by
  unfold Obligations.ResetAndSetBit
  refine fun b => ⟨fun r => ⟨(encodedAs_res b (.reg r)).encoded, (encodedAs_set b (.reg r)).encoded, fun s =>
      ⟨⟨clearBit (s.reg r) b, ?_, clearBit_getLsbD _ b⟩, ⟨setBit (s.reg r) b, ?_, setBit_getLsbD _ b⟩⟩⟩,
    (encodedAs_res b .atHL).encoded, (encodedAs_set b .atHL).encoded, fun s =>
      ⟨⟨clearBit (s.readByte s.hl) b, ?_, clearBit_getLsbD _ b⟩,
        ⟨setBit (s.readByte s.hl) b, ?_, setBit_getLsbD _ b⟩⟩⟩
  · exact (exec_res b (.reg r) s).trans (resStep_completed b (.reg r) 8 s)
  · exact (exec_set b (.reg r) s).trans (setStep_completed b (.reg r) 8 s)
  · exact (exec_res b .atHL s).trans (resStep_completed b .atHL 16 s)
  · exact (exec_set b .atHL s).trans (setStep_completed b .atHL 16 s)

end Sys2Proof.Machine

/-! PROOFS. Control transfer (46_control.md). Jumps, calls and returns differ in where they go and in what they make of
the stack; one lemma says how a transferring step ends, and one how a condition chooses between that end and the next
instruction. The rows of O41 to O43 are then an encoding and a step each. -/

namespace Sys2Proof.Machine

open Claims

/-! ## Transfers and conditions -/

section

variable {len cost notTaken : Nat} {s : State}

/-- A rule that makes `u` of the state and goes to `pc`, and touches none of IME, `ei_armed` and `cycles`, completes
there. -/
theorem instrStep_transferred {rule : State → Word → Except FaultKind Effect} {u : State} {pc : Word}
    (h : rule { s with haltbug := false } (s.pcNext len) =
      .ok { st := { u with haltbug := false }, target := some pc })
    (hi : u.ime = s.ime) (he : u.eiArmed = s.eiArmed) (hc : u.cycles = s.cycles) :
    instrStep len cost notTaken rule s = .next (completed s u pc cost) := by
  rw [instrStep_ok h]
  simp [retire, completed, hi, he, hc]

/-- A conditional step does what its unconditional one does when the condition holds; else it goes on at the next
instruction at the lower cost (46_control.md rule R299). -/
theorem instrStep_conditional {cc : Cond} {body : State → Word → Except FaultKind Effect} {t : State}
    (h : instrStep len cost notTaken body s = .next t) :
    instrStep len cost notTaken (fun s n => if s.cond cc then body s n else .ok { st := s, taken := false }) s =
      .next (if holds cc s.f then t else completed s s (s.pcNext len) notTaken) := by
  have hcond : ({ s with haltbug := false } : State).cond cc = holds cc s.f := cond_eq_holds _ cc
  cases hh : holds cc s.f with
  | true => simpa [instrStep, hcond, hh] using h
  | false => simp [instrStep, hcond, hh, retire, completed]

end

/-! ## Jumps -/

theorem jpStep_completed (m1 m2 : Byte) (s : State) :
    jpStep m1 m2 s = .next (completed s s (s.imm16 m1 m2) 16) := instrStep_transferred rfl rfl rfl rfl

theorem jpIfStep_completed (cc : Cond) (m1 m2 : Byte) (s : State) :
    jpIfStep cc m1 m2 s =
      .next (if holds cc s.f then completed s s (s.imm16 m1 m2) 16 else completed s s (s.pcNext 3) 12) :=
  instrStep_conditional (instrStep_transferred rfl rfl rfl rfl)

theorem jpHLStep_completed (s : State) : jpHLStep s = .next (completed s s (joinBytes s.h s.l) 4) :=
  instrStep_transferred rfl rfl rfl rfl

/-- A relative jump's end, whatever it costs not to take it. -/
theorem instrStep_relativeJump (notTaken : Nat) (n8 : Byte) (s : State) :
    instrStep 2 12 notTaken (fun s next => .ok { st := s, target := some (addSigned next n8) }) s =
      .next (completed s s (s.pcNext 2 + n8.signExtend 16) 12) := by
  refine instrStep_transferred ?_ rfl rfl rfl
  rw [addSigned_eq]

theorem jrStep_completed (n8 : Byte) (s : State) :
    jrStep n8 s = .next (completed s s (s.pcNext 2 + n8.signExtend 16) 12) := instrStep_relativeJump 0 n8 s

theorem jrIfStep_completed (cc : Cond) (n8 : Byte) (s : State) :
    jrIfStep cc n8 s =
      .next (if holds cc s.f then completed s s (s.pcNext 2 + n8.signExtend 16) 12
        else completed s s (s.pcNext 2) 8) :=
  instrStep_conditional (instrStep_relativeJump 8 n8 s)

/-- Settles O41: a row's condition and operand select its encoding and its step. -/
theorem jumps : Obligations.Jumps := by
  unfold Obligations.Jumps
  intro s cc n8 m1 m2
  exact ⟨⟨(encodedAs_jpA16 m1 m2).encoded, (hasRow_jpA16 m1 m2).exec_eq_of (jpStep_completed m1 m2 s)⟩,
    ⟨(encodedAs_jpIf cc m1 m2).encoded, (exec_jpIf cc m1 m2 s).trans (jpIfStep_completed cc m1 m2 s)⟩,
    ⟨encoded_one rfl fun _ => rfl, hasRow_jpHL.exec_eq_of (jpHLStep_completed s)⟩,
    ⟨(encodedAs_jrR8 n8).encoded, (hasRow_jrR8 n8).exec_eq_of (jrStep_completed n8 s)⟩,
    ⟨(encodedAs_jrIf cc n8).encoded, (exec_jrIf cc n8 s).trans (jrIfStep_completed cc n8 s)⟩⟩

/-! ## Calls and restarts -/

theorem callRule_of_ne {s : State} (n target : Word) (h : s.sp ≠ 0x0001#16) :
    callRule s n target = .ok { st := pushed s n, target := some target } := by
  rw [callRule, State.push16_of_ne n h]

theorem callRule_of_eq {s : State} (n target : Word) (h : s.sp = 0x0001#16) :
    callRule s n target = .error .addressOutOfRange := by
  rw [callRule, State.push16_of_eq n h]

/-- A call pushes the next instruction's address and goes to its target, or faults in the push. -/
theorem instrStep_callRule {len cost notTaken : Nat} {target : State → Word} {s : State} {a : Word}
    (ha : target { s with haltbug := false } = a) :
    instrStep len cost notTaken (fun s n => callRule s n (target s)) s =
      .next (if s.sp = 0x0001#16 then faulted s .addressOutOfRange
        else completed s (pushed s (s.pcNext len)) a cost) := by
  subst ha
  by_cases h : s.sp = 0x0001#16
  · rw [if_pos h]
    exact instrStep_error (callRule_of_eq (s := { s with haltbug := false }) _ _ h)
  · rw [if_neg h]
    exact instrStep_transferred (callRule_of_ne (s := { s with haltbug := false }) _ _ h) rfl rfl rfl

theorem callStep_eq (m1 m2 : Byte) (s : State) :
    callStep m1 m2 s =
      .next (if s.sp = 0x0001#16 then faulted s .addressOutOfRange
        else completed s (pushed s (s.pcNext 3)) (s.imm16 m1 m2) 24) :=
  instrStep_callRule (s.imm16_haltbug_false m1 m2)

theorem callIfStep_eq (cc : Cond) (m1 m2 : Byte) (s : State) :
    callIfStep cc m1 m2 s =
      .next (if holds cc s.f then
          (if s.sp = 0x0001#16 then faulted s .addressOutOfRange
            else completed s (pushed s (s.pcNext 3)) (s.imm16 m1 m2) 24)
        else completed s s (s.pcNext 3) 12) :=
  instrStep_conditional (instrStep_callRule (s.imm16_haltbug_false m1 m2))

/-- The restart targets are the multiples of 8 that a 3-bit field gives (rule R310). -/
theorem mem_restartTargets_iff (n : Nat) :
    n ∈ [0x00, 0x08, 0x10, 0x18, 0x20, 0x28, 0x30, 0x38] ↔ ∃ k : Fin 8, n = 8 * k.val := by
  constructor
  · intro h
    have hbound : ∀ m ∈ [0x00, 0x08, 0x10, 0x18, 0x20, 0x28, 0x30, 0x38], m / 8 < 8 ∧ m = 8 * (m / 8) := by decide
    obtain ⟨hlt, hn⟩ := hbound n h
    exact ⟨⟨n / 8, hlt⟩, hn⟩
  · rintro ⟨k, rfl⟩
    revert k
    decide

theorem rstStep_eq (k : Fin 8) (s : State) :
    rstStep (8 * k.val) s =
      .next (if s.sp = 0x0001#16 then faulted s .addressOutOfRange
        else completed s (pushed s (s.pcNext 1)) (.ofNat 16 (8 * k.val)) 16) := by
  simp only [rstStep, if_pos ((mem_restartTargets_iff (8 * k.val)).mpr ⟨k, rfl⟩)]
  exact instrStep_callRule rfl

theorem rstStep_of_not_target {n : Nat} (h : ¬ ∃ k : Fin 8, n = 8 * k.val) (s : State) :
    rstStep n s = .next (faulted s .invalidOperand) :=
  instrStep_error (if_neg (mt (mem_restartTargets_iff n).mp h))

/-- Settles O42: all three rows are the one call, at its own target, and only its push can fault. -/
theorem callsAndRestarts : Obligations.CallsAndRestarts := by
  unfold Obligations.CallsAndRestarts
  refine ⟨fun s cc m1 m2 => ⟨⟨(encodedAs_callA16 m1 m2).encoded, ?_⟩, (encodedAs_callIf cc m1 m2).encoded, ?_⟩,
    fun s k => ⟨(encodedAs_rst k).encoded, ?_⟩, fun s n h => rstStep_of_not_target h s⟩
  · exact (hasRow_callA16 m1 m2).exec_eq_of (callStep_eq m1 m2 s)
  · exact (exec_callIf cc m1 m2 s).trans (callIfStep_eq cc m1 m2 s)
  · exact (exec_rst k s).trans (rstStep_eq k s)

/-! ## Returns -/

theorem retRule_of_ne {s : State} (h : s.sp ≠ 0xFFFF#16) :
    retRule s = .ok { st := { s with sp := s.sp + 2 }, target := some (wordAt s s.sp) } := by
  rw [retRule, State.pop16_of_ne h]

theorem retRule_of_eq {s : State} (h : s.sp = 0xFFFF#16) : retRule s = .error .addressOutOfRange := by
  rw [retRule, State.pop16_of_eq h]

/-- A return goes to the word it pops, or faults in the pop. -/
theorem instrStep_retRule {len cost notTaken : Nat} {s : State} :
    instrStep len cost notTaken (fun s _ => retRule s) s =
      .next (if s.sp = 0xFFFF#16 then faulted s .addressOutOfRange
        else completed s { s with sp := s.sp + 2 } (wordAt s s.sp) cost) := by
  by_cases h : s.sp = 0xFFFF#16
  · rw [if_pos h]
    exact instrStep_error (retRule_of_eq (s := { s with haltbug := false }) h)
  · rw [if_neg h]
    exact instrStep_transferred (retRule_of_ne (s := { s with haltbug := false }) h) rfl rfl rfl

theorem retStep_eq (s : State) :
    retStep s =
      .next (if s.sp = 0xFFFF#16 then faulted s .addressOutOfRange
        else completed s { s with sp := s.sp + 2 } (wordAt s s.sp) 16) := instrStep_retRule

theorem retIfStep_eq (cc : Cond) (s : State) :
    retIfStep cc s =
      .next (if holds cc s.f then
          (if s.sp = 0xFFFF#16 then faulted s .addressOutOfRange
            else completed s { s with sp := s.sp + 2 } (wordAt s s.sp) 20)
        else completed s s (s.pcNext 1) 8) := instrStep_conditional instrStep_retRule

theorem returnFromInterrupt_of_ne {s : State} (h : s.sp ≠ 0xFFFF#16) :
    returnFromInterrupt s =
      .ok { st := { s with sp := s.sp + 2, ime := true }, target := some (wordAt s s.sp) } := by
  rw [returnFromInterrupt, State.pop16_of_ne h]

theorem returnFromInterrupt_of_eq {s : State} (h : s.sp = 0xFFFF#16) :
    returnFromInterrupt s = .error .addressOutOfRange := by
  rw [returnFromInterrupt, State.pop16_of_eq h]

/-- `RETI` writes IME itself, so its end is a return's with IME set: no pending enable can add to it. -/
theorem retiStep_eq (s : State) :
    retiStep s =
      .next (if s.sp = 0xFFFF#16 then faulted s .addressOutOfRange
        else { completed s { s with sp := s.sp + 2 } (wordAt s s.sp) 16 with ime := true }) := by
  by_cases h : s.sp = 0xFFFF#16
  · rw [if_pos h]
    exact instrStep_error (returnFromInterrupt_of_eq (s := { s with haltbug := false }) h)
  · rw [if_neg h]
    have hpop := returnFromInterrupt_of_ne (s := { s with haltbug := false }) h
    exact instrStep_ok (rule := fun s _ => returnFromInterrupt s) hpop

/-- Settles O43: all three rows pop PC, and only the pop can fault. -/
theorem returns : Obligations.Returns := by
  unfold Obligations.Returns
  exact fun s cc => ⟨⟨encoded_one rfl fun _ => rfl, hasRow_ret.exec_eq_of (retStep_eq s)⟩,
    ⟨(encodedAs_retIf cc).encoded, (exec_retIf cc s).trans (retIfStep_eq cc s)⟩,
    ⟨encoded_one rfl fun _ => rfl, hasRow_reti.exec_eq_of (retiStep_eq s)⟩⟩

end Sys2Proof.Machine

/-! PROOFS. CPU control, the 0xCB row and the illegal rows (47_cpu_control.md). The first are an encoding and a step
each (O44); the 0xCB row runs the step of the CB row its second byte stands for (O45). -/

namespace Sys2Proof.Machine

open Claims

/-! ## `NOP`, `STOP`, `DI`, `EI` and `HALT` -/

/-- `HALT` chooses between its two effects by the state before it; `haltbug` is no part of the choice (rule R321). -/
theorem haltStep_eq (s : State) :
    haltStep s = .next
      (if s.cfg.haltBug = true ∧ s.ime = false ∧ s.pending ≠ 0#8 then
        { completed s s (s.pcNext 1) 4 with haltbug := true }
       else completed s { s with halted := true } (s.pcNext 1) 4) := by
  have hcond : (s.cfg.haltBug = true ∧ s.ime = false ∧ s.pending ≠ 0#8) ↔
      (s.cfg.haltBug && !s.ime && s.pending != 0#8) = true := by
    simp [and_assoc]
  have hp : ({ s with haltbug := false } : State).pending = s.pending := rfl
  rw [haltStep, plainStep_eq]
  by_cases h : (s.cfg.haltBug && !s.ime && s.pending != 0#8) = true
  · simp [hcond, h, hp, completed]
  · simp [hcond, h, hp, completed]

/-- Settles O44: `DI` writes IME and the pending enable itself, `EI` arms the enable, and the others are plain steps. -/
theorem cpuControl : Obligations.CpuControl := by
  unfold Obligations.CpuControl
  intro s pad
  refine ⟨⟨encoded_one rfl fun _ => rfl, hasRow_nop.exec_eq_of (plainStep_completed rfl rfl rfl rfl)⟩,
    ⟨(encodedAs_stop pad).encoded, (hasRow_stop pad).exec_eq_of (plainStep_completed rfl rfl rfl rfl)⟩,
    ⟨encoded_one rfl fun _ => rfl, hasRow_di.exec_eq_of ?_⟩,
    ⟨encoded_one rfl fun _ => rfl, hasRow_ei.exec_eq_of ?_⟩,
    ⟨encoded_one rfl fun _ => rfl, hasRow_halt.exec_eq_of (haltStep_eq s)⟩⟩
  · rw [diStep, plainStep_eq]
    simp [completed]
  · rw [eiStep, instrStep_ok rfl]
    simp [retire, completed]

/-! ## The 0xCB row and the illegal rows -/

/-- Every instruction, in every state, gives a next state. -/
theorem exec_next (i : Instr) (s : State) : ∃ t, exec i s = .next t := by
  obtain ⟨len, cost, notTaken, rule, hstep, -⟩ := exec_actsAs i
  obtain ⟨k, -, hr⟩ | ⟨x, -, hr⟩ := instrStep_cases (hstep s).symm
  · exact ⟨_, hr⟩
  · exact ⟨_, hr⟩

theorem cbCost_eq_withHL (o : Operand8) : cbCost o = withHL o 8 16 := by cases o <;> rfl

theorem cbBitCost_eq_withHL (o : Operand8) : cbBitCost o = withHL o 8 12 := by cases o <;> rfl

/-- The 0xCB row is the CB row of the byte after it, by the quadrants of the CB table (rules R118, R325). -/
theorem exec_prefixCB (op : Byte) (s : State) : exec (.prefixCB op) s = exec (decodeCB op) s := by
  change prefixStep op s = exec (decodeCB op) s
  have hx4 := fieldX_lt op
  simp only [prefixStep, decodeCB, cbCost_eq_withHL, cbBitCost_eq_withHL]
  interval_cases fieldX op
  · simp only [exec_shift]
  · simp only [exec_bit, bitOfField_fieldY]
  · simp only [exec_res, bitOfField_fieldY]
  · simp only [exec_set, bitOfField_fieldY]

/-- An illegal row's one effect is the fault (rule R326). -/
theorem illegalStep_faulted (s : State) : illegalStep s = .next (faulted s .invalidOperand) := instrStep_error rfl

theorem illegalOpcodes_eq_map : illegalOpcodes = Row.illegals.map fun i => i.spec.value.toNat := rfl

/-- Settles O45: the CB table by its quadrants, and the list of illegal opcodes as that of the illegal rows' bytes. -/
theorem prefixAndIllegalRows : Obligations.PrefixAndIllegalRows := by
  unfold Obligations.PrefixAndIllegalRows
  refine ⟨fun op rest s => ?_, rfl, fun i hi => ⟨?_, (encodedAs_illegal hi).encoded, fun s => ?_⟩, fun v hv => ?_⟩
  · have hrow := encodedAs_decodeCB op
    exact ⟨hrow.decode_eq rest, hrow.wf, hrow.encode_eq, rfl, rfl, rfl, rfl, exec_prefixCB op s, exec_next _ s⟩
  · rw [illegalOpcodes_eq_map, List.contains_iff_mem]
    exact List.mem_map_of_mem hi
  · exact (exec_illegal hi s).trans (illegalStep_faulted s)
  · rw [illegalOpcodes_eq_map, List.contains_iff_mem, List.mem_map] at hv
    obtain ⟨i, hi, hiv⟩ := hv
    exact ⟨i, hi, BitVec.eq_of_toNat_eq hiv⟩

end Sys2Proof.Machine

/-! PROOFS. One tick of the PPU (65_ppu.md). What the transitions, the mirror and the STAT check each leave behind is
said first; O50 to O54 and the lockstep of O55 are made of that. -/

namespace Sys2Proof.Machine

/-! ## What a tick leaves alone -/

/-- The transitions leave the CPU, the breakpoint, the STAT line and the parameters alone. -/
theorem advanceDot_frame (s : State) :
    advanceDot s =
      { s with
        mem := (advanceDot s).mem, device := (advanceDot s).device, dot := (advanceDot s).dot, ly := (advanceDot s).ly
        mode := (advanceDot s).mode, lines := (advanceDot s).lines, frameSlot := (advanceDot s).frameSlot
        emitted := (advanceDot s).emitted } := by
  rcases advanceDot_cases s with ⟨-, -, h⟩ | ⟨-, -, h⟩ | ⟨-, -, -, h⟩ | ⟨-, -, h⟩ | ⟨-, -, h⟩ | ⟨-, -, h⟩ |
    ⟨-, -, -, h⟩ <;> rw [h]
  rfl

/-- The check leaves everything but the STAT line and what is behind `BUS` alone. -/
theorem statInterruptCheck_frame (m : Mirrored) :
    statInterruptCheck m =
      { m.st with
        mem := (statInterruptCheck m).mem, device := (statInterruptCheck m).device
        statLine := (statInterruptCheck m).statLine } := by
  rw [statInterruptCheck_eq]
  split <;> rfl

/-- After its transitions a tick changes no more than the STAT line and what is behind `BUS`. -/
theorem ppuTick_eq_advanceDot (s : State) :
    ppuTick s =
      { advanceDot s with
        mem := (ppuTick s).mem, device := (ppuTick s).device, statLine := (ppuTick s).statLine } := by
  rw [ppuTick]
  generalize advanceDot s = u
  exact statInterruptCheck_frame (mirrorRegisters u)

theorem ppuTick_frame (s : State) :
    ppuTick s =
      { s with
        mem := (ppuTick s).mem, device := (ppuTick s).device, dot := (ppuTick s).dot, ly := (ppuTick s).ly
        mode := (ppuTick s).mode, lines := (ppuTick s).lines, statLine := (ppuTick s).statLine
        frameSlot := (ppuTick s).frameSlot, emitted := (ppuTick s).emitted } := by
  have h := ppuTick_eq_advanceDot s
  rw [advanceDot_frame s] at h
  rw [h]

section

variable (s : State)

@[simp] theorem ppuTick_dot : (ppuTick s).dot = (advanceDot s).dot := by rw [ppuTick_eq_advanceDot]
@[simp] theorem ppuTick_ly : (ppuTick s).ly = (advanceDot s).ly := by rw [ppuTick_eq_advanceDot]
@[simp] theorem ppuTick_mode : (ppuTick s).mode = (advanceDot s).mode := by rw [ppuTick_eq_advanceDot]
@[simp] theorem ppuTick_lines : (ppuTick s).lines = (advanceDot s).lines := by rw [ppuTick_eq_advanceDot]
@[simp] theorem ppuTick_frameSlot : (ppuTick s).frameSlot = (advanceDot s).frameSlot := by rw [ppuTick_eq_advanceDot]
@[simp] theorem ppuTick_fault : (ppuTick s).fault = s.fault := by rw [ppuTick_frame]
@[simp] theorem ppuTick_cycles : (ppuTick s).cycles = s.cycles := by rw [ppuTick_frame]

end

theorem ppuTicks_fault (n : Nat) (s : State) : (ppuTicks n s).fault = s.fault :=
  ppuTicks_keeps (P := fun t => t.fault = s.fault) (fun t h => (ppuTick_fault t).trans h) n rfl

theorem ppuTicks_cycles (n : Nat) (s : State) : (ppuTicks n s).cycles = s.cycles :=
  ppuTicks_keeps (P := fun t => t.cycles = s.cycles) (fun t h => (ppuTick_cycles t).trans h) n rfl

/-! ## The position in the frame -/

/-- A state at a position of the frame, in the position's mode. -/
theorem onGrid_at {t : State} (ly dot : Nat) {n : Nat} (hly : t.ly = ly) (hdot : t.dot = dot)
    (hmode : t.mode = modeAt ly dot) (h : ly < 154 ∧ dot < 456 ∧ ly * 456 + dot = n) :
    Claims.OnGrid t ∧ t.framePosition = n := by
  subst hly hdot
  obtain ⟨hl, hd, hn⟩ := h
  exact ⟨⟨hd, hl, hmode⟩, hn⟩

/-- The transitions move one position on, with the mode that position selects (rules R451 to R456). -/
theorem advanceDot_position {s : State} (h : Claims.OnGrid s) :
    Claims.OnGrid (advanceDot s) ∧ (advanceDot s).framePosition = (s.framePosition + 1) % 70224 := by
  obtain ⟨hdot, hly, hmode⟩ := h
  rw [State.framePosition.eq_def s]
  rcases advanceDot_cases s with ⟨hd, hl, hs⟩ | ⟨hd, hl, hs⟩ | ⟨hd, hl, hl', hs⟩ | ⟨hd, hl, hs⟩ | ⟨hd, hm, hs⟩ |
    ⟨hd, hm, hs⟩ | ⟨hd, hm, hm', hs⟩ <;> rw [hs]
  · exact onGrid_at (s.ly + 1) 0 rfl rfl (modeAt_oamSearch_iff.mpr (by omega)).symm (by omega)
  · exact onGrid_at 144 0 rfl rfl rfl (by omega)
  · refine onGrid_at (s.ly + 1) 0 rfl rfl ?_ (by omega)
    rw [hmode, modeAt_vBlank (by omega), modeAt_vBlank (by omega)]
  · exact onGrid_at 0 0 rfl rfl rfl (by omega)
  · rw [hmode, modeAt_oamSearch_iff] at hm
    exact onGrid_at s.ly 80 rfl rfl (modeAt_pixelDrawing_iff.mpr (by omega)).symm (by omega)
  · rw [hmode, modeAt_pixelDrawing_iff] at hm
    exact onGrid_at s.ly 160 rfl rfl (modeAt_hBlank_iff.mpr (by omega)).symm (by omega)
  · rw [hmode] at hm hm'
    exact onGrid_at s.ly (s.dot + 1) rfl rfl (hmode.trans (modeAt_succ hm hm').1.symm) (by omega)

/-- Two transitions change the lines: the one to dot 80 appends a line, and the end of line 143 empties them. -/
theorem advanceDot_lines {s : State} (h : Claims.OnGrid s) :
    (advanceDot s).lines =
      if s.ly < 144 ∧ s.dot = 79 then s.lines ++ [composite s s.ly]
      else if s.ly = 143 ∧ s.dot = 455 then [] else s.lines := by
  obtain ⟨hdot, hly, hmode⟩ := h
  rcases advanceDot_cases s with ⟨hd, hl, hs⟩ | ⟨hd, hl, hs⟩ | ⟨hd, hl, hl', hs⟩ | ⟨hd, hl, hs⟩ | ⟨hd, hm, hs⟩ |
    ⟨hd, hm, hs⟩ | ⟨hd, hm, hm', hs⟩ <;> rw [hs]
  · rw [if_neg (by omega), if_neg (by omega)]
  · rw [if_neg (by omega), if_pos (by omega)]
    rfl
  · rw [if_neg (by omega), if_neg (by omega)]
  · rw [if_neg (by omega), if_neg (by omega)]
  · rw [hmode, modeAt_oamSearch_iff] at hm
    rw [if_pos ⟨hm.1, hd⟩]
  · rw [if_neg (by omega), if_neg (by omega)]
  · rw [hmode, modeAt_oamSearch_iff] at hm
    rw [if_neg (by omega), if_neg (by omega)]

/-- Settles O50: the transitions move the position and the lines, and the rest of a tick leaves both alone. -/
theorem tickMovesOn : Obligations.TickMovesOn := by
  unfold Obligations.TickMovesOn
  intro s h
  obtain ⟨hgrid, hpos⟩ := advanceDot_position h
  simp only [Claims.OnGrid, State.framePosition, ppuTick_dot, ppuTick_ly, ppuTick_mode, ppuTick_lines] at hgrid hpos ⊢
  exact ⟨hgrid, hpos, advanceDot_lines h⟩

/-- As many ticks, as many positions on. -/
theorem ppuTicks_position (n : Nat) {s : State} (h : Claims.OnGrid s) :
    Claims.OnGrid (ppuTicks n s) ∧ (ppuTicks n s).framePosition = (s.framePosition + n) % 70224 := by
  induction n generalizing s with
  | zero =>
    have ⟨hdot, hly, _⟩ := h
    have hpos : s.framePosition < 70224 := by
      rw [State.framePosition]
      omega
    exact ⟨h, by rw [Nat.add_zero, Nat.mod_eq_of_lt hpos, ppuTicks]⟩
  | succ n ih =>
    obtain ⟨hgrid, hpos, -⟩ := tickMovesOn s h
    obtain ⟨hgrid', hpos'⟩ := ih hgrid
    refine ⟨hgrid', ?_⟩
    rw [ppuTicks, hpos', hpos]
    omega

/-! ## Reading the bytes a tick writes -/

section

variable {s : State} (hb : s.cfg.bus = .flat)
include hb

/-- The transitions write IF alone, at the end of line 143 (65_ppu.md rule R454). -/
theorem readByte_advanceDot_other {a : Word} (ha : a ≠ addrIF) : (advanceDot s).readByte a = s.readByte a := by
  rcases advanceDot_cases s with ⟨-, -, h⟩ | ⟨-, -, h⟩ | ⟨-, -, -, h⟩ | ⟨-, -, h⟩ | ⟨-, -, h⟩ | ⟨-, -, h⟩ |
    ⟨-, -, -, h⟩ <;> rw [h] <;> try rfl
  exact State.readByte_writeByte_other hb _ ha

theorem readByte_advanceDot_IF (hw : Memory.wf s.mem = true) :
    (advanceDot s).readByte addrIF = s.readByte addrIF ||| (if s.ly = 143 ∧ s.dot = 455 then 0x01#8 else 0#8) := by
  rcases advanceDot_cases s with ⟨hd, hl, h⟩ | ⟨hd, hl, h⟩ | ⟨hd, hl, hl', h⟩ | ⟨hd, hl, h⟩ | ⟨hd, -, h⟩ | ⟨hd, -, h⟩ |
    ⟨hd, -, -, h⟩ <;> rw [h]
  case inr.inl =>
    rw [if_pos (by omega)]
    exact State.readByte_writeByte_same hb hw _ _
  all_goals
    rw [if_neg (by omega), BitVec.or_zero]
    rfl

theorem readByte_mirrorRegisters_other {a : Word} (h1 : a ≠ addrLY) (h2 : a ≠ addrSTAT) :
    (mirrorRegisters s).st.readByte a = s.readByte a := by
  rw [mirrorRegisters_st_eq]
  exact State.readByte_writeBytes_other _ hb (by simp [h1, h2])

theorem readByte_mirrorRegisters_LY (hw : Memory.wf s.mem = true) :
    (mirrorRegisters s).st.readByte addrLY = .ofNat 8 s.ly := by
  exact (State.readByte_writeByte_other (s := s.writeByte _ _) hb _ (by decide)).trans
    (State.readByte_writeByte_same hb hw _ _)

/-- The STAT check writes IF alone, and on a rising edge (65_ppu.md rule R459). -/
theorem readByte_statInterruptCheck_other {m : Mirrored} (hm : m.st.cfg = s.cfg) {a : Word} (ha : a ≠ addrIF) :
    (statInterruptCheck m).readByte a = m.st.readByte a := by
  rw [statInterruptCheck_eq]
  split
  · exact State.readByte_writeByte_other (by rw [hm, hb]) _ ha
  · rfl

theorem readByte_statInterruptCheck_IF {m : Mirrored} (hm : m.st.cfg = s.cfg) (hw : Memory.wf m.st.mem = true) :
    (statInterruptCheck m).readByte addrIF =
      m.st.readByte addrIF |||
        (if statCondition m.stat m.coinc m.st.mode && !m.st.statLine then 0x02#8 else 0#8) := by
  rw [statInterruptCheck_eq]
  by_cases h : statCondition m.stat m.coinc m.st.mode = true ∧ m.st.statLine = false
  · rw [if_pos h, if_pos (by simp [h])]
    exact State.readByte_writeByte_same (by rw [hm, hb]) hw _ _
  · rw [if_neg h, if_neg (by simpa using h), BitVec.or_zero]
    rfl

/-- A tick writes three bytes alone. -/
theorem readByte_ppuTick_other {a : Word} (h1 : a ≠ addrLY) (h2 : a ≠ addrSTAT) (h3 : a ≠ addrIF) :
    (ppuTick s).readByte a = s.readByte a := by
  have hcfg := (advanceDot_keeps s).2
  rw [ppuTick, readByte_statInterruptCheck_other hb hcfg h3, readByte_mirrorRegisters_other (by rw [hcfg, hb]) h1 h2,
    readByte_advanceDot_other hb h3]

end

/-! ## The mirror and the STAT check -/

theorem advanceDot_wf {s : State} (hw : Memory.wf s.mem = true) : Memory.wf (advanceDot s).mem = true := by
  rcases advanceDot_cases s with ⟨-, -, h⟩ | ⟨-, -, h⟩ | ⟨-, -, -, h⟩ | ⟨-, -, h⟩ | ⟨-, -, h⟩ | ⟨-, -, h⟩ |
    ⟨-, -, -, h⟩ <;> rw [h] <;> try exact hw
  exact State.writeByte_wf (s := s) hw _ _

section

variable {s : State} (hb : s.cfg.bus = .flat) (hw : Memory.wf s.mem = true)
include hb hw

theorem readByte_ppuTick_LY : (ppuTick s).readByte addrLY = .ofNat 8 (ppuTick s).ly := by
  have hcfg := (advanceDot_keeps s).2
  rw [ppuTick_ly, ppuTick, readByte_statInterruptCheck_other hb hcfg (by decide)]
  exact readByte_mirrorRegisters_LY (by rw [hcfg, hb]) (advanceDot_wf hw)

/-- After a tick the STAT byte and the LYC compare are those the mirror made (rules R457, R459). -/
theorem mirrored_read_back :
    (ppuTick s).readByte addrSTAT = (mirrorRegisters (advanceDot s)).stat ∧
      (ppuTick s).coincidence = (mirrorRegisters (advanceDot s)).coinc := by
  have hcfg := (advanceDot_keeps s).2
  obtain ⟨hstat, hcoinc⟩ := mirrorRegisters_read_back (s := advanceDot s) (by rw [hcfg, hb]) (advanceDot_wf hw)
  rw [← hstat, ← hcoinc, State.coincidence, State.coincidence, ppuTick_ly, ppuTick,
    readByte_statInterruptCheck_other hb hcfg (by decide), readByte_statInterruptCheck_other hb hcfg (by decide)]
  exact ⟨rfl, rfl⟩

theorem readByte_ppuTick_STAT :
    (ppuTick s).readByte addrSTAT = statMirror (s.readByte addrSTAT) (ppuTick s).coincidence (ppuTick s).mode := by
  obtain ⟨hstat, hcoinc⟩ := mirrored_read_back hb hw
  have hold : ((advanceDot s).writeByte addrLY (.ofNat 8 (advanceDot s).ly)).readByte addrSTAT = s.readByte addrSTAT :=
    (State.readByte_writeByte_other (by rw [(advanceDot_keeps s).2, hb]) _ (by decide)).trans
      (readByte_advanceDot_other hb (by decide))
  rw [hstat, hcoinc, ppuTick_mode, ← hold]
  rfl

/-- The STAT line is the condition of the byte just written (rule R459). -/
theorem ppuTick_statLine :
    (ppuTick s).statLine =
      statCondition ((ppuTick s).readByte addrSTAT) (ppuTick s).coincidence (ppuTick s).mode := by
  obtain ⟨hstat, hcoinc⟩ := mirrored_read_back hb hw
  rw [hstat, hcoinc, ppuTick_mode]
  rfl

/-- A tick requests VBlank at the end of line 143 and STAT on a rising edge (rules R458, R459). -/
theorem readByte_ppuTick_IF :
    (ppuTick s).readByte addrIF =
      s.readByte addrIF ||| (if s.ly = 143 ∧ s.dot = 455 then 0x01#8 else 0#8) |||
        (if (ppuTick s).statLine && !s.statLine then 0x02#8 else 0#8) := by
  obtain ⟨hline, hcfg⟩ := advanceDot_keeps s
  have hm : Memory.wf (mirrorRegisters (advanceDot s)).st.mem = true :=
    State.writeByte_wf (State.writeByte_wf (advanceDot_wf hw) _ _) _ _
  rw [← readByte_advanceDot_IF hb hw, ← hline, ppuTick, readByte_statInterruptCheck_IF hb hcfg hm,
    readByte_mirrorRegisters_other (by rw [hcfg, hb]) (by decide) (by decide)]
  rfl

end

/-- The mirror keeps STAT bits 7..3 and replaces the rest (rule R457). -/
theorem statMirror_bits (old : Byte) (coinc : Bool) (m : PpuMode) :
    statMirror old coinc m &&& 0xF8#8 = old &&& 0xF8#8 ∧ (statMirror old coinc m).getLsbD 2 = coinc ∧
      statMirror old coinc m &&& 0x03#8 = .ofNat 8 m.code := by
  rw [statMirror]
  refine ⟨?_, ?_, ?_⟩
  · simp only [BitVec.and_or_distrib_right, BitVec.and_assoc]
    cases coinc <;> cases m <;> simp [PpuMode.code]
  · cases coinc <;> cases m <;> simp [PpuMode.code]
  · simp only [BitVec.and_or_distrib_right, BitVec.and_assoc]
    cases coinc <;> cases m <;> simp [PpuMode.code]

theorem requested_bits (v : Byte) (vblank stat : Bool) :
    let w := v ||| (if vblank then 0x01#8 else 0#8) ||| (if stat then 0x02#8 else 0#8)
    w.getLsbD 0 = (v.getLsbD 0 || vblank) ∧ w.getLsbD 1 = (v.getLsbD 1 || stat) ∧ w &&& 0xFC#8 = v &&& 0xFC#8 := by
  simp only [BitVec.and_or_distrib_right]
  cases vblank <;> cases stat <;> simp

/-- Settles O51: the bytes the mirror wrote are still there after the STAT check. -/
theorem tickMirrorsRegisters : Obligations.TickMirrorsRegisters := by
  unfold Obligations.TickMirrorsRegisters
  intro s hb hw t
  obtain ⟨hkept, hcoinc, hcode⟩ := statMirror_bits (s.readByte addrSTAT) t.coincidence t.mode
  rw [← readByte_ppuTick_STAT hb hw] at hkept hcoinc hcode
  refine ⟨readByte_ppuTick_LY hb hw, hkept, hcoinc, hcode.trans ?_⟩
  cases t.mode <;> rfl

/-- Settles O52: the transitions enter VBlank, and the rest of the tick keeps what they did. -/
theorem vBlankEntry : Obligations.VBlankEntry := by
  unfold Obligations.VBlankEntry
  intro s hly hdot t
  have ht : advanceDot s = enterVBlank { s with dot := 0 } := by
    simp [advanceDot, endOfLine, hly, hdot]
  simp only [t, ppuTick_ly, ppuTick_dot, ppuTick_mode, ppuTick_lines, ppuTick_frameSlot, ht, enterVBlank_eq, true_and]
  refine ⟨fun hb hw => ?_, fun hs hr => ?_, fun hs hr => ?_, fun fr hs => ?_⟩
  · have hif := readByte_ppuTick_IF hb hw
    rw [if_pos ⟨hly, hdot⟩] at hif
    obtain ⟨h0, -, -⟩ := requested_bits (s.readByte addrIF) true ((ppuTick s).statLine && !s.statLine)
    exact (congrArg (BitVec.getLsbD · 0) hif).trans (h0.trans (Bool.or_true _))
  · simp [hs, hr]
  · simp [hs, hr]
  · simp [hs]

theorem statMirror_eq (old : Byte) (coinc : Bool) (m : PpuMode) :
    statMirror old coinc m =
      (old &&& 0xF8#8) ||| (if coinc then 0x04#8 else 0x00#8) |||
        (match m with | .hBlank => 0#8 | .vBlank => 1#8 | .oamSearch => 2#8 | .pixelDrawing => 3#8) := by
  cases m <;> rfl

/-- The STAT check in the shape of the statement of O53. -/
theorem statInterruptCheck_eq_rising (m : Mirrored) :
    statInterruptCheck m =
      { (if statCondition m.stat m.coinc m.st.mode = true ∧ m.st.statLine = false then
          m.st.writeByte addrIF (m.st.readByte addrIF ||| 0x02#8) else m.st) with
        statLine := statCondition m.stat m.coinc m.st.mode } := by
  simp [statInterruptCheck, requestInterrupt]

/-- Settles O53: a tick is its transitions, the mirror and the check; on the default `BUS` the bytes these wrote read
back. -/
theorem requestBits : Obligations.RequestBits := by
  unfold Obligations.RequestBits
  refine ⟨fun s => ?_, fun s hb hw => ?_⟩
  · rw [ppuTick, ← (advanceDot_keeps s).1]
    generalize advanceDot s = u
    intro u' w coinc stat line t
    have hstat : (mirrorRegisters u).stat = stat := by
      refine (statMirror_eq _ _ u.mode).trans ?_
      cases hm : u.mode <;> simp only [stat, u', hm] <;> rfl
    have hline : statCondition (mirrorRegisters u).stat (mirrorRegisters u).coinc (mirrorRegisters u).st.mode =
        line := by
      rw [hstat]
      rfl
    have hst : (mirrorRegisters u).st = t := by
      rw [mirrorRegisters_st_eq, hstat]
      rfl
    have hcheck := statInterruptCheck_eq_rising (mirrorRegisters u)
    rw [hline, hst] at hcheck
    exact hcheck
  · obtain ⟨h0, h1, hrest⟩ :=
      requested_bits (s.readByte addrIF) (decide (s.ly = 143 ∧ s.dot = 455)) ((ppuTick s).statLine && !s.statLine)
    have hif := readByte_ppuTick_IF hb hw
    simp only [decide_eq_true_eq] at h0 h1 hrest
    rw [← hif] at h0 h1 hrest
    rw [ppuTick_statLine hb hw] at h1
    exact ⟨ppuTick_statLine hb hw, h1, h0, hrest⟩

/-- Settles O54: the parts of a tick leave the CPU's state alone, and write three bytes. -/
theorem tickFrame : Obligations.TickFrame := by
  unfold Obligations.TickFrame
  exact fun s => ⟨ppuTick_frame s, fun hb a h1 h2 h3 => readByte_ppuTick_other hb h1 h2 h3⟩

end Sys2Proof.Machine

/-! PROOFS. What an instruction costs, what fault it ends in and what it leaves alone outside the CPU (60_exceptions.md
rules R404, R410, R411). The fault and the cost of a row are said by its opcode, as the statements say them; one lemma
over the families of rows then says that every instruction keeps to both. -/

namespace Sys2Proof.Machine

open Claims

/-! ## The frame of an instruction -/

/-- A control effect records no fault and clears none. -/
theorem controlEffect_fault (i : Instr) (s : State) : (controlEffect i s).fault = s.fault := by
  cases h : controlRow i with
  | false => rw [controlEffect_of_not_controlRow h, id]
  | true =>
    obtain rfl | rfl | rfl | ⟨pad, rfl⟩ | rfl := controlRow_cases h
    · rfl
    · rfl
    · exact (apply_ite State.fault _ _ _).trans (ite_self _)
    · rfl
    · rfl

/-- An instruction raises, or leaves the recorded fault as it was. -/
theorem exec_fault_cases {i : Instr} {s t : State} (h : exec i s = .next t) :
    t.fault = s.fault ∨ ∃ k, t = faulted s k := by
  obtain ⟨k, rfl⟩ | ⟨u, pc, cost, ⟨hu, -⟩, rfl⟩ := (exec_actsAs i).cases h
  · exact .inr ⟨k, rfl⟩
  · exact .inl ((congrArg State.fault hu).trans (controlEffect_fault i _))

/-- Settles O13: every instruction is an instruction step, whose rule works inside the CPU. -/
theorem instructionFrame : Obligations.InstructionFrame := by
  unfold Obligations.InstructionFrame
  intro i s
  obtain ⟨t, h⟩ := exec_next i s
  have ho := (exec_keeps_outsideCpu h).1
  exact ⟨t, h, (congrArg State.dot ho :), (congrArg State.ly ho :), (congrArg State.mode ho :),
    (congrArg State.lines ho :), (congrArg State.statLine ho :), (congrArg State.frameSlot ho :),
    (congrArg State.bp ho :), (congrArg State.emitted ho :), exec_cfg h, exec_fault_cases h⟩

/-! ## Fault and cost by opcode -/

/-- The address an instruction stores a word at upwards, if it does: `LD (a16),SP` alone, the opcode 0x08
(41_load16.md rule R221). -/
def wordTarget (i : Instr) (s : State) : Option Word :=
  if isOneOf i [0x08] then
    match encode i with
    | [_, m1, m2] => some (s.imm16 m1 m2)
    | _ => none
  else none

theorem wordTarget_ldAtA16SP (m1 m2 : Byte) (s : State) :
    wordTarget (.ldAtA16SP m1 m2) s = some (s.imm16 m1 m2) := rfl

/-- The fault an instruction raises from a state, if any, by its opcode: the rows of the table of causes that are about
instructions (rule R411). -/
def instrFault (i : Instr) (s : State) : Option FaultKind :=
  if isOneOf i illegalOpcodes then some .invalidOperand
  else if pushes i s.f && s.sp == 0x0001#16 then some .addressOutOfRange
  else if pops i s.f && s.sp == 0xFFFF#16 then some .addressOutOfRange
  else if wordTarget i s = some 0xFFFF#16 then some .addressOutOfRange
  else none

/-- The cycles the opcode table gives an instruction that runs with these flags (rule R404). -/
def tableCost (i : Instr) (f : Byte) : Nat := if taken i f then i.spec.baseCycles else i.spec.notTakenCycles

/-- A well-formed instruction raises the fault its opcode says, or completes at the cost the table says. -/
def EndsByTable (i : Instr) : Prop :=
  i.wf = true → ∀ s,
    (∃ k, instrFault i s = some k ∧ exec i s = .next (faulted s k)) ∨
    (instrFault i s = none ∧ 4 ≤ tableCost i s.f ∧
      ∃ t, exec i s = .next t ∧ t.fault = s.fault ∧ t.cycles = s.cycles + tableCost i s.f)

/-- The opcodes that can raise or whose cost depends on the flags. -/
def specialOpcodes : List Nat :=
  illegalOpcodes ++ pushOpcodes ++ popOpcodes ++ jumpIfOpcodes ++ callIfOpcodes ++ retIfOpcodes ++ [0x08]

theorem isOneOf_append (i : Instr) (l m : List Nat) : isOneOf i (l ++ m) = (isOneOf i l || isOneOf i m) := by
  unfold isOneOf
  cases mainOpcode i <;> simp

theorem taken_of_unconditional {i : Instr} (h : isOneOf i (jumpIfOpcodes ++ callIfOpcodes ++ retIfOpcodes) = false)
    (f : Byte) : taken i f = true := by
  unfold taken
  unfold isOneOf at h
  cases hop : mainOpcode i with
  | none => rfl
  | some v =>
    rw [hop] at h
    exact if_neg (ne_true_of_eq_false h)

/-- The row has none of those opcodes and costs this much, as a test that computes. -/
def isPlainRow (i : Instr) (cost : Nat) : Bool := !isOneOf i specialOpcodes && i.spec.baseCycles == cost

/-- A row of another opcode cannot raise and costs the same whatever the flags are. -/
theorem cost_of_isPlainRow {i : Instr} {cost : Nat} (h : isPlainRow i cost = true) (s : State) :
    instrFault i s = none ∧ tableCost i s.f = cost := by
  simp only [isPlainRow, Bool.and_eq_true, Bool.not_eq_true', beq_iff_eq] at h
  obtain ⟨h, hc⟩ := h
  simp only [specialOpcodes, isOneOf_append, Bool.or_eq_false_iff] at h
  obtain ⟨⟨⟨⟨⟨⟨hill, hpush⟩, hpop⟩, hjump⟩, hcall⟩, hret⟩, hword⟩ := h
  have htaken := taken_of_unconditional (i := i) (by simp only [isOneOf_append, hjump, hcall, hret, Bool.or_self]) s.f
  have htarget : wordTarget i s = none := if_neg (ne_true_of_eq_false hword)
  exact ⟨by simp [instrFault, pushes, pops, hill, hpush, hpop, hcall, hret, htarget],
    (if_pos htaken).trans hc⟩

/-- How one run ends when it costs something: it is then no raise. -/
theorem ends_of_next {i : Instr} {s t : State} {cost : Nat} (hf : instrFault i s = none) (hc : tableCost i s.f = cost)
    (h4 : 4 ≤ cost) (h : exec i s = .next t) (ht : t.cycles = s.cycles + cost) :
    instrFault i s = none ∧ 4 ≤ tableCost i s.f ∧
      ∃ t, exec i s = .next t ∧ t.fault = s.fault ∧ t.cycles = s.cycles + tableCost i s.f := by
  subst hc
  refine ⟨hf, h4, t, h, (exec_fault_cases h).resolve_right ?_, ht⟩
  rintro ⟨k, rfl⟩
  have : s.cycles = s.cycles + tableCost i s.f := ht
  omega

section

variable {i : Instr} {len cost notTaken : Nat} {fl : FlagDescriptor}

theorem endsByTable_of_plain {f : State → State} (hr : HasRow i len fl (plainStep len cost f))
    (hrow : isPlainRow i cost = true) (h4 : 4 ≤ cost) (hf : ∀ s, (f s).cycles = s.cycles) : EndsByTable i := by
  obtain ⟨-, -, hx⟩ := hr
  intro _ s
  obtain ⟨hfault, htable⟩ := cost_of_isPlainRow hrow s
  exact .inr (ends_of_next hfault htable h4 ((hx s).trans (plainStep_eq len cost f s))
    (congrArg (· + cost) (hf { s with haltbug := false })))

/-- A rule that cannot raise, and spends no cycles itself. -/
theorem endsByTable_of_rule {rule : State → Word → Effect}
    (hr : HasRow i len fl (instrStep len cost notTaken fun s n => .ok (rule s n))) (hrow : isPlainRow i cost = true)
    (h4 : 4 ≤ cost) (h : ∀ s n, (rule s n).st.cycles = s.cycles ∧ (rule s n).taken = true) : EndsByTable i := by
  obtain ⟨-, -, hx⟩ := hr
  intro _ s
  obtain ⟨hfault, htable⟩ := cost_of_isPlainRow hrow s
  obtain ⟨hcycles, htaken⟩ := h { s with haltbug := false } (s.pcNext len)
  refine .inr (ends_of_next hfault htable h4 ((hx s).trans (instrStep_ok rfl)) ?_)
  simp [retire, hcycles, htaken]

/-- A step that raises at one value of SP and completes at every other. -/
theorem endsByTable_of_stack {step : State → Result} (hr : HasRow i len fl step) (a : Word) (next : State → State)
    (hf : ∀ s, instrFault i s = if s.sp == a then some .addressOutOfRange else none)
    (hc : ∀ s : State, tableCost i s.f = cost) (h4 : 4 ≤ cost)
    (h : ∀ s, step s = .next (if s.sp = a then faulted s .addressOutOfRange else next s))
    (hn : ∀ s, (next s).cycles = s.cycles + cost) : EndsByTable i := by
  obtain ⟨-, -, hx⟩ := hr
  intro _ s
  have hf := hf s
  have h := (hx s).trans (h s)
  by_cases hsp : s.sp = a
  · rw [if_pos (beq_iff_eq.mpr hsp)] at hf
    rw [if_pos hsp] at h
    exact .inl ⟨_, hf, h⟩
  · rw [if_neg (mt beq_iff_eq.mp hsp)] at hf
    rw [if_neg hsp] at h
    exact .inr (ends_of_next hf (hc s) h4 h (hn s))

/-- A conditional jump. -/
theorem endsByTable_of_jump {cc : Cond} {step : State → Result} (hr : HasRow i len fl step) (hit miss : State → State)
    (hf : ∀ s, instrFault i s = none)
    (hc : ∀ s : State, tableCost i s.f = if holds cc s.f then cost else notTaken) (h4 : 4 ≤ cost ∧ 4 ≤ notTaken)
    (h : ∀ s, step s = .next (if holds cc s.f then hit s else miss s))
    (hh : ∀ s, (hit s).cycles = s.cycles + cost) (hm : ∀ s, (miss s).cycles = s.cycles + notTaken) :
    EndsByTable i := by
  obtain ⟨-, -, hx⟩ := hr
  intro _ s
  have hc := hc s
  have h := (hx s).trans (h s)
  cases hcond : holds cc s.f <;> rw [hcond] at hc h
  · exact .inr (ends_of_next (hf s) hc h4.2 h (hm s))
  · exact .inr (ends_of_next (hf s) hc h4.1 h (hh s))

/-- A conditional call or return, which can raise when its condition holds. -/
theorem endsByTable_of_conditionalStack {cc : Cond} {step : State → Result} (hr : HasRow i len fl step) (a : Word)
    (hit miss : State → State)
    (hf : ∀ s, instrFault i s = if holds cc s.f && s.sp == a then some .addressOutOfRange else none)
    (hc : ∀ s : State, tableCost i s.f = if holds cc s.f then cost else notTaken) (h4 : 4 ≤ cost ∧ 4 ≤ notTaken)
    (h : ∀ s, step s =
      .next (if holds cc s.f then (if s.sp = a then faulted s .addressOutOfRange else hit s) else miss s))
    (hh : ∀ s, (hit s).cycles = s.cycles + cost) (hm : ∀ s, (miss s).cycles = s.cycles + notTaken) :
    EndsByTable i := by
  obtain ⟨-, -, hx⟩ := hr
  intro _ s
  have hf := hf s
  have hc := hc s
  have h := (hx s).trans (h s)
  cases hcond : holds cc s.f <;> rw [hcond] at hf hc h
  · exact .inr (ends_of_next hf hc h4.2 h (hm s))
  · by_cases hsp : s.sp = a
    · simp only [hsp, beq_self_eq_true, Bool.and_self, if_true] at hf h
      exact .inl ⟨_, hf, h⟩
    · simp only [hsp, Bool.true_and, beq_iff_eq, if_true, if_false] at hf h
      exact .inr (ends_of_next hf hc h4.1 h (hh s))

end

theorem four_le_withHL {a b : Nat} (o : Operand8) (ha : 4 ≤ a) (hb : 4 ≤ b) : 4 ≤ withHL o a b := by
  cases o
  · exact ha
  · exact hb

theorem four_le_ldCost (d r : Operand8) : 4 ≤ ldCost d r := by
  unfold ldCost
  split <;> decide

/-! ## Every instruction -/

/-! The rows with operand fields, by opcode. -/

theorem isPlainRow_ld (d r : Operand8) (h : d ≠ .atHL ∨ r ≠ .atHL) : isPlainRow (Row.ld d r) (ldCost d r) = true := by
  rcases d with q | _ <;> rcases r with r | _
  · cases q <;> cases r <;> decide +kernel
  · cases q <;> decide +kernel
  · cases r <;> decide +kernel
  · simp at h

theorem isPlainRow_ldImm (o : Operand8) (n8 : Byte) : isPlainRow (Row.ldImm o n8) (withHL o 8 12) = true := by
  rcases o with q | _
  · cases q <;> rfl
  · rfl

theorem isPlainRow_alu (op : AluOp) (o : Operand8) : isPlainRow (Row.alu op o) (withHL o 4 8) = true := by
  rcases o with q | _
  · cases op <;> cases q <;> decide +kernel
  · cases op <;> decide +kernel

theorem isPlainRow_inc (o : Operand8) : isPlainRow (Row.inc o) (withHL o 4 12) = true := by
  rcases o with q | _
  · cases q <;> decide +kernel
  · decide +kernel

theorem isPlainRow_dec (o : Operand8) : isPlainRow (Row.dec o) (withHL o 4 12) = true := by
  rcases o with q | _
  · cases q <;> decide +kernel
  · decide +kernel

theorem isPlainRow_shift (op : ShiftOp) (o : Operand8) : isPlainRow (Row.shift op o) (withHL o 8 16) = true := by
  rcases o with q | _
  · cases op <;> cases q <;> decide +kernel
  · cases op <;> decide +kernel

theorem isPlainRow_bit (b : Fin 8) (o : Operand8) : isPlainRow (Row.bit b o) (withHL o 8 12) = true := by
  revert b
  rcases o with q | _
  · cases q <;> decide +kernel
  · decide +kernel

theorem isPlainRow_res (b : Fin 8) (o : Operand8) : isPlainRow (Row.res b o) (withHL o 8 16) = true := by
  revert b
  rcases o with q | _
  · cases q <;> decide +kernel
  · decide +kernel

theorem isPlainRow_set (b : Fin 8) (o : Operand8) : isPlainRow (Row.set b o) (withHL o 8 16) = true := by
  revert b
  rcases o with q | _
  · cases q <;> decide +kernel
  · decide +kernel

/-! The conditional rows are the ones whose transfer depends on the flags. -/

theorem tableCost_of_transfer {i : Instr} {cc : Cond} {f : Byte} {cost notTaken : Nat}
    (ht : (transfers i && taken i f) = holds cc f) (htr : transfers i = true)
    (hspec : i.spec.baseCycles = cost ∧ i.spec.notTakenCycles = notTaken) :
    tableCost i f = if holds cc f then cost else notTaken := by
  rw [htr, Bool.true_and] at ht
  rw [tableCost, ht, hspec.1, hspec.2]

theorem tableCost_jpIf (cc : Cond) (m1 m2 f : Byte) :
    tableCost (Row.jpIf cc m1 m2) f = if holds cc f then 16 else 12 :=
  tableCost_of_transfer (transfers_jpIf cc m1 m2 f) (by cases cc <;> rfl) (by cases cc <;> exact ⟨rfl, rfl⟩)

theorem tableCost_jrIf (cc : Cond) (n8 f : Byte) :
    tableCost (Row.jrIf cc n8) f = if holds cc f then 12 else 8 :=
  tableCost_of_transfer (transfers_jrIf cc n8 f) (by cases cc <;> rfl) (by cases cc <;> exact ⟨rfl, rfl⟩)

theorem tableCost_callIf (cc : Cond) (m1 m2 f : Byte) :
    tableCost (Row.callIf cc m1 m2) f = if holds cc f then 24 else 12 :=
  tableCost_of_transfer (transfers_callIf cc m1 m2 f) (by cases cc <;> rfl) (by cases cc <;> exact ⟨rfl, rfl⟩)

theorem tableCost_retIf (cc : Cond) (f : Byte) :
    tableCost (Row.retIf cc) f = if holds cc f then 20 else 8 :=
  tableCost_of_transfer (transfers_retIf cc f) (by cases cc <;> rfl) (by cases cc <;> exact ⟨rfl, rfl⟩)

theorem instrFault_callIf (cc : Cond) (m1 m2 : Byte) (s : State) :
    instrFault (Row.callIf cc m1 m2) s =
      if holds cc s.f && s.sp == 0x0001#16 then some .addressOutOfRange else none := by
  unfold instrFault
  rw [pushes_callIf]
  cases cc <;> rfl

theorem pops_retIf (cc : Cond) (f : Byte) : pops (Row.retIf cc) f = holds cc f := by
  rw [← writesSP_retIf cc f]
  cases cc <;> rfl

theorem instrFault_retIf (cc : Cond) (s : State) :
    instrFault (Row.retIf cc) s =
      if holds cc s.f && s.sp == 0xFFFF#16 then some .addressOutOfRange else none := by
  unfold instrFault
  rw [pops_retIf]
  cases cc <;> rfl

/-- The families one by one: the plain steps, the jumps, and the rows that move the stack or store SP, which can
raise. -/
theorem endsByTable : ∀ i : Instr, EndsByTable i := by
  apply Instr.byFamily
  case prefixCB => exact fun _ => nofun
  case ld =>
    exact fun d r h => endsByTable_of_plain (hasRow_ld d r h) (isPlainRow_ld d r h)
      (four_le_ldCost d r) fun s => State.setOperand_cycles s d _
  case ldImm =>
    exact fun o n8 => endsByTable_of_plain (hasRow_ldImm o n8) (isPlainRow_ldImm o n8)
      (four_le_withHL o (by decide) (by decide)) fun s => State.setOperand_cycles s o _
  case alu =>
    exact fun op o => endsByTable_of_plain (hasRow_alu op o) (isPlainRow_alu op o)
      (four_le_withHL o (by decide) (by decide)) fun _ => rfl
  case inc =>
    exact fun o => endsByTable_of_plain (hasRow_inc o) (isPlainRow_inc o)
      (four_le_withHL o (by decide) (by decide)) fun s => State.setOperand_cycles s o _
  case dec =>
    exact fun o => endsByTable_of_plain (hasRow_dec o) (isPlainRow_dec o)
      (four_le_withHL o (by decide) (by decide)) fun s => State.setOperand_cycles s o _
  case shift =>
    exact fun op o => endsByTable_of_plain (hasRow_shift op o) (isPlainRow_shift op o)
      (four_le_withHL o (by decide) (by decide)) fun s => State.setOperand_cycles s o _
  case bit =>
    exact fun b o => endsByTable_of_plain (hasRow_bit b o) (isPlainRow_bit b o)
      (four_le_withHL o (by decide) (by decide)) fun _ => rfl
  case res =>
    exact fun b o => endsByTable_of_plain (hasRow_res b o) (isPlainRow_res b o)
      (four_le_withHL o (by decide) (by decide)) fun s => State.setOperand_cycles s o _
  case set =>
    exact fun b o => endsByTable_of_plain (hasRow_set b o) (isPlainRow_set b o)
      (four_le_withHL o (by decide) (by decide)) fun s => State.setOperand_cycles s o _
  case aluImm =>
    exact fun op n8 => endsByTable_of_plain (hasRow_aluImm op n8) (by cases op <;> rfl)
      (by decide) fun _ => rfl
  case ldPair =>
    exact fun p m1 m2 => endsByTable_of_plain (hasRow_ldPair p m1 m2) (by cases p <;> rfl)
      (by decide) fun s => State.setPair_cycles s p _
  case addHL =>
    exact fun p => endsByTable_of_plain (hasRow_addHL p) (by cases p <;> rfl)
      (by decide) fun _ => rfl
  case incPair =>
    exact fun p => endsByTable_of_plain (hasRow_incPair p) (by cases p <;> rfl)
      (by decide) fun s => State.setPair_cycles s p _
  case decPair =>
    exact fun p => endsByTable_of_plain (hasRow_decPair p) (by cases p <;> rfl)
      (by decide) fun s => State.setPair_cycles s p _
  case push =>
    refine fun q => endsByTable_of_stack (hasRow_push q) 0x0001#16
      (fun s => completed s (pushed s (s.stackPair q)) (s.pcNext 1) 16) (by cases q <;> exact fun _ => rfl)
      (by cases q <;> exact fun _ => rfl) (by decide) (fun s => ?_) fun _ => rfl
    split
    · exact pushStep_faulted ‹_›
    · exact pushStep_completed ‹_›
  case pop =>
    refine fun q => endsByTable_of_stack (hasRow_pop q) 0xFFFF#16
      (fun s => completed s (({ s with sp := s.sp + 2 } : State).setStackPair q (wordAt s s.sp)) (s.pcNext 1) 12)
      (by cases q <;> exact fun _ => rfl) (by cases q <;> exact fun _ => rfl) (by decide) (fun s => ?_) fun _ => rfl
    split
    · exact popStep_faulted ‹_›
    · exact popStep_completed ‹_›
  case callA16 =>
    exact fun m1 m2 => endsByTable_of_stack (hasRow_callA16 m1 m2) 0x0001#16 _ (fun _ => rfl) (fun _ => rfl)
      (by decide) (callStep_eq m1 m2) fun _ => rfl
  case rst =>
    exact fun k => endsByTable_of_stack (hasRow_rst k) 0x0001#16 _ (by fin_cases k <;> exact fun _ => rfl)
      (by fin_cases k <;> exact fun _ => rfl) (by decide) (rstStep_eq k) fun _ => rfl
  case ret =>
    exact endsByTable_of_stack hasRow_ret 0xFFFF#16 _ (fun _ => rfl) (fun _ => rfl) (by decide) retStep_eq fun _ => rfl
  case reti =>
    exact endsByTable_of_stack hasRow_reti 0xFFFF#16 _ (fun _ => rfl) (fun _ => rfl) (by decide) retiStep_eq
      fun _ => rfl
  case jpIf =>
    exact fun cc m1 m2 => endsByTable_of_jump (hasRow_jpIf cc m1 m2) _ _ (by cases cc <;> exact fun _ => rfl)
      (fun s => tableCost_jpIf cc m1 m2 s.f) (by decide) (jpIfStep_completed cc m1 m2) (fun _ => rfl) fun _ => rfl
  case jrIf =>
    exact fun cc n8 => endsByTable_of_jump (hasRow_jrIf cc n8) _ _ (by cases cc <;> exact fun _ => rfl)
      (fun s => tableCost_jrIf cc n8 s.f) (by decide) (jrIfStep_completed cc n8) (fun _ => rfl) fun _ => rfl
  case callIf =>
    exact fun cc m1 m2 => endsByTable_of_conditionalStack (hasRow_callIf cc m1 m2) 0x0001#16 _ _
      (instrFault_callIf cc m1 m2) (fun s => tableCost_callIf cc m1 m2 s.f) (by decide) (callIfStep_eq cc m1 m2)
      (fun _ => rfl) fun _ => rfl
  case retIf =>
    exact fun cc => endsByTable_of_conditionalStack (hasRow_retIf cc) 0xFFFF#16 _ _
      (instrFault_retIf cc) (fun s => tableCost_retIf cc s.f) (by decide) (retIfStep_eq cc) (fun _ => rfl) fun _ => rfl
  case illegal =>
    intro i hi _ s
    have hill : isOneOf i illegalOpcodes = true := by
      revert i
      decide
    exact .inl ⟨.invalidOperand, if_pos hill, (exec_illegal hi s).trans (illegalStep_faulted s)⟩
  case ldAtA16SP =>
    intro m1 m2 _ s
    by_cases h : s.imm16 m1 m2 = 0xFFFF#16
    · exact .inl ⟨_, if_pos (congrArg some h), (hasRow_ldAtA16SP m1 m2).exec_eq_of (storeSPStep_faulted h)⟩
    · exact .inr (ends_of_next (cost := 20) (if_neg (mt Option.some.inj h)) rfl (by decide)
        ((hasRow_ldAtA16SP m1 m2).exec_eq_of (storeSPStep_completed h)) rfl)
  case jpA16 =>
    exact fun m1 m2 => endsByTable_of_rule (hasRow_jpA16 m1 m2) rfl (by decide)
      fun _ _ => ⟨rfl, rfl⟩
  case jrR8 =>
    exact fun n8 => endsByTable_of_rule (hasRow_jrR8 n8) rfl (by decide) fun _ _ => ⟨rfl, rfl⟩
  case jpHL => exact endsByTable_of_rule hasRow_jpHL (by decide +kernel) (by decide) fun _ _ => ⟨rfl, rfl⟩
  case ei => exact endsByTable_of_rule hasRow_ei (by decide +kernel) (by decide) fun _ _ => ⟨rfl, rfl⟩
  case halt =>
    exact endsByTable_of_plain hasRow_halt (by decide +kernel) (by decide) fun _ => by split <;> rfl
  case stop => exact fun pad => endsByTable_of_plain (hasRow_stop pad) rfl (by decide) fun _ => rfl
  case nop => exact endsByTable_of_plain hasRow_nop (by decide +kernel) (by decide) fun _ => rfl
  case di => exact endsByTable_of_plain hasRow_di (by decide +kernel) (by decide) fun _ => rfl
  case rlca => exact endsByTable_of_plain hasRow_rlca (by decide +kernel) (by decide) fun _ => rfl
  case rrca => exact endsByTable_of_plain hasRow_rrca (by decide +kernel) (by decide) fun _ => rfl
  case rla => exact endsByTable_of_plain hasRow_rla (by decide +kernel) (by decide) fun _ => rfl
  case rra => exact endsByTable_of_plain hasRow_rra (by decide +kernel) (by decide) fun _ => rfl
  case daa => exact endsByTable_of_plain hasRow_daa (by decide +kernel) (by decide) fun _ => rfl
  case cpl => exact endsByTable_of_plain hasRow_cpl (by decide +kernel) (by decide) fun _ => rfl
  case scf => exact endsByTable_of_plain hasRow_scf (by decide +kernel) (by decide) fun _ => rfl
  case ccf => exact endsByTable_of_plain hasRow_ccf (by decide +kernel) (by decide) fun _ => rfl
  case ldSPHL => exact endsByTable_of_plain hasRow_ldSPHL (by decide +kernel) (by decide) fun _ => rfl
  case ldAtBCA => exact endsByTable_of_plain hasRow_ldAtBCA (by decide +kernel) (by decide) fun _ => rfl
  case ldAtDEA => exact endsByTable_of_plain hasRow_ldAtDEA (by decide +kernel) (by decide) fun _ => rfl
  case ldAAtBC => exact endsByTable_of_plain hasRow_ldAAtBC (by decide +kernel) (by decide) fun _ => rfl
  case ldAAtDE => exact endsByTable_of_plain hasRow_ldAAtDE (by decide +kernel) (by decide) fun _ => rfl
  case ldAtCA => exact endsByTable_of_plain hasRow_ldAtCA (by decide +kernel) (by decide) fun _ => rfl
  case ldAAtC => exact endsByTable_of_plain hasRow_ldAAtC (by decide +kernel) (by decide) fun _ => rfl
  case ldAtHLIncA =>
    exact endsByTable_of_plain hasRow_ldAtHLIncA (by decide +kernel) (by decide)
      fun s => State.setHL_cycles (s.writeByte s.hl s.a) _
  case ldAtHLDecA =>
    exact endsByTable_of_plain hasRow_ldAtHLDecA (by decide +kernel) (by decide)
      fun s => State.setHL_cycles (s.writeByte s.hl s.a) _
  case ldAAtHLInc => exact endsByTable_of_plain hasRow_ldAAtHLInc (by decide +kernel) (by decide) fun _ => rfl
  case ldAAtHLDec => exact endsByTable_of_plain hasRow_ldAAtHLDec (by decide +kernel) (by decide) fun _ => rfl
  case ldhAtA8A =>
    exact fun n8 => endsByTable_of_plain (hasRow_ldhAtA8A n8) rfl (by decide) fun _ => rfl
  case ldhAAtA8 =>
    exact fun n8 => endsByTable_of_plain (hasRow_ldhAAtA8 n8) rfl (by decide) fun _ => rfl
  case addSPR8 =>
    exact fun n8 => endsByTable_of_plain (hasRow_addSPR8 n8) rfl (by decide) fun _ => rfl
  case ldHLSPR8 =>
    exact fun n8 => endsByTable_of_plain (hasRow_ldHLSPR8 n8) rfl (by decide) fun _ => rfl
  case ldAtA16A =>
    exact fun m1 m2 => endsByTable_of_plain (hasRow_ldAtA16A m1 m2) rfl (by decide) fun _ => rfl
  case ldAAtA16 =>
    exact fun m1 m2 => endsByTable_of_plain (hasRow_ldAAtA16 m1 m2) rfl (by decide) fun _ => rfl

end Sys2Proof.Machine

/-! PROOFS. The CPU step and the system step (60_exceptions.md). What each kind of step does, how a step ends, what it
costs and which fault it ends in (O6 to O11, O14), and that the PPU keeps pace with it (O55). -/

namespace Sys2Proof.Machine

open Claims

/-! ## The kinds of step -/

theorem State.asleep_eq_true_iff (s : State) : s.asleep = true ↔ s.halted = true ∨ s.stopped = true := by
  simp [State.asleep]

/-- The wake-up condition fails when nothing is pending, or in STOP under STOP_WAKE = Never (rule R430). -/
theorem State.wakes_eq_false_iff (s : State) :
    s.wakes = false ↔ s.pending = 0#8 ∨ (s.stopped = true ∧ s.cfg.stopWake = .never) := by
  cases hs : s.stopped <;> simp [State.wakes, hs, or_iff_not_imp_left]

theorem State.wakes_of_pending {s : State} (hp : s.pending ≠ 0#8)
    (hs : s.stopped = true → s.cfg.stopWake = .anyEnabledInterrupt) : s.wakes = true := by
  rw [← Bool.not_eq_false, State.wakes_eq_false_iff]
  rintro (h | ⟨h, hn⟩)
  · exact hp h
  · rw [hs h] at hn
    cases hn

section

variable {s : State} (hf : s.fault = none)
include hf

theorem State.stepKind_idle (hs : s.asleep = true) (hw : s.wakes = false) : s.stepKind = .idle := by
  simp [State.stepKind, hf, hs, hw]

theorem State.asleep_of_stepKind_idle (h : s.stepKind = .idle) : s.asleep = true := by
  rw [← Bool.not_eq_false]
  intro hs
  simp only [State.stepKind, hf, hs, Bool.false_and, Bool.false_eq_true, if_false] at h
  split at h
  · cases h
  · split at h <;> cases h

theorem State.stepKind_dispatch (h : (s.asleep && !s.wakes) = false) (hi : (s.ime && s.pending != 0#8) = true) :
    s.stepKind = .dispatch (lowestPending s.pending) := by
  simp only [State.stepKind, hf, h, hi, Bool.false_eq_true, if_false, if_true]

section

variable (h : (s.asleep && !s.wakes) = false) (hi : (s.ime && s.pending != 0#8) = false)
include h hi

theorem State.stepKind_of_fetch {i : Instr} (hx : s.fetch = .ok i) : s.stepKind = .instr i := by
  simp only [State.stepKind, hf, h, hi, hx, Bool.false_eq_true, if_false]

theorem State.stepKind_of_fetch_error {k : FaultKind} (hx : s.fetch = .error k) : s.stepKind = .badFetch k := by
  simp only [State.stepKind, hf, h, hi, hx, Bool.false_eq_true, if_false]

end

/-- A CPU that does not idle takes the kind of step it takes awake (rule R430). -/
theorem State.stepKind_awake (h : (s.asleep && !s.wakes) = false) : s.awake.stepKind = s.stepKind := by
  have hf' : s.awake.fault = none := hf
  have hs' : s.awake.asleep = false := rfl
  simp only [State.stepKind, hf, hf', h, hs', Bool.false_and, Bool.false_eq_true, if_false]
  rfl

theorem cpuStep_idle (hk : s.stepKind = .idle) : cpuStep s = .next { s with cycles := s.cycles + 4 } := by
  simp [cpuStep, hk, restoreOnRaise, hf]

end

section

variable {s : State}

theorem cpuStep_dispatch {k : Nat} {t : State} (hk : s.stepKind = .dispatch k)
    (h : dispatchInterrupt s.awake = .next t) : cpuStep s = .next (restoreOnRaise s t) := by
  simp only [cpuStep, hk, h]

theorem cpuStep_instr {i : Instr} {t : State} (hk : s.stepKind = .instr i) (h : exec i s.awake = .next t) :
    cpuStep s = .next (restoreOnRaise s t) := by
  simp only [cpuStep, hk, h]

theorem cpuStep_badFetch {k : FaultKind} (hk : s.stepKind = .badFetch k) : cpuStep s = .next (faulted s k) := by
  simp only [cpuStep, hk]
  rfl

theorem cpuStep_frozen {r : FaultRecord} (h : s.fault = some r) : cpuStep s = .fault (.noStep r.kind r.pc) := by
  simp [cpuStep, State.stepKind, h]

theorem restoreOnRaise_of_none {t : State} (h : t.fault = none) : restoreOnRaise s t = t := by
  simp [restoreOnRaise, h]

theorem restoreOnRaise_of_some {t : State} {r : FaultRecord} (h : t.fault = some r) :
    restoreOnRaise s t = { s with fault := some r } := by
  simp [restoreOnRaise, h]

theorem ticksAfter_of_none {t : State} (h : t.fault = none) : ticksAfter s t = ppuTicks (t.cycles - s.cycles) t := by
  simp [ticksAfter, h]

theorem ticksAfter_of_some {t : State} {r : FaultRecord} (h : t.fault = some r) : ticksAfter s t = t := by
  simp [ticksAfter, h]

/-- Ticks record no fault and clear none. -/
theorem ticksAfter_fault (t : State) : (ticksAfter s t).fault = t.fault := by
  unfold ticksAfter
  split
  · rfl
  · exact ppuTicks_fault _ t

/-- The step that ends in a fault is over when the CPU step is. -/
theorem step_of_cpuStep_faulted {k : FaultKind} (h : cpuStep s = .next (faulted s k)) :
    step s = .next (faulted s k) := by
  rw [step_of_cpuStep h, ticksAfter_of_some rfl]

/-- The bytes at PC decode to the instruction of an instruction step. -/
theorem decode_of_stepKind {i : Instr} (h : s.stepKind = .instr i) :
    ∃ rest, decode (s.bytesAt s.pc) = .ok (i, rest) := by
  have hfetch : s.fetch = .ok i := by
    unfold State.stepKind at h
    split at h
    · cases h
    split at h
    · cases h
    split at h
    · cases h
    split at h
    · next hi =>
      cases h
      exact hi
    · cases h
  unfold State.fetch at hfetch
  split at hfetch
  · next hd =>
    cases hfetch
    exact ⟨_, hd⟩
  · cases hfetch

end

theorem fetch_of_decode {s : State} {i : Instr} {rest : List Byte} (h : decode (s.bytesAt s.pc) = .ok (i, rest)) :
    s.fetch = .ok i := by
  rw [State.fetch, h]

/-! ## How a step ends -/

/-- A CPU step raises and has no other effect, or it is an idle step, a dispatch or an instruction that completes. -/
theorem cpuStep_ends {s t : State} (h : cpuStep s = .next t) :
    (∃ k, t = faulted s k) ∨
    (t.fault = none ∧
      ((s.stepKind = .idle ∧ t = { s with cycles := s.cycles + 4 }) ∨
       (∃ k, s.stepKind = .dispatch k ∧ dispatchInterrupt s.awake = .next t) ∨
       (∃ i, s.stepKind = .instr i ∧ exec i s.awake = .next t))) := by
  obtain ⟨hf, ⟨hk, rfl⟩ | ⟨u, rfl, hu⟩⟩ := cpuStep_cases h
  · exact .inr ⟨hf, .inl ⟨hk, rfl⟩⟩
  · cases hfu : u.fault with
    | none =>
      rw [restoreOnRaise_of_none hfu]
      refine .inr ⟨hfu, .inr ?_⟩
      obtain hd | hi | ⟨k, -, rfl⟩ := hu
      · exact .inl hd
      · exact .inr hi
      · cases hfu
    | some r =>
      rw [restoreOnRaise_of_some hfu]
      refine .inl ⟨r.kind, ?_⟩
      have hraise (k : FaultKind) (hk : u = s.awake.raise k) : { s with fault := some r } = faulted s r.kind := by
        subst hk
        cases hfu
        rfl
      obtain ⟨k, -, hd⟩ | ⟨i, -, hi⟩ | ⟨k, -, hk⟩ := hu
      · rw [dispatchInterrupt_eq] at hd
        split at hd <;> cases hd
        · exact hraise _ rfl
        · cases hf.symm.trans hfu
      · obtain hnone | ⟨k, hk⟩ := exec_fault_cases hi
        · cases (hnone.trans hf).symm.trans hfu
        · exact hraise k hk
      · exact hraise k hk

/-- A CPU step that is not of a frozen machine gives a next state. -/
theorem cpuStep_next {s : State} (hf : s.fault = none) : ∃ t, cpuStep s = .next t := by
  cases hk : s.stepKind with
  | noStep r => simp [State.stepKind, hf] at hk; split_ifs at hk; split at hk <;> cases hk
  | idle => exact ⟨_, cpuStep_idle hf hk⟩
  | dispatch k =>
    have h := dispatchInterrupt_eq s.awake
    split at h <;> exact ⟨_, cpuStep_dispatch hk h⟩
  | instr i =>
    obtain ⟨t, h⟩ := exec_next i s.awake
    exact ⟨_, cpuStep_instr hk h⟩
  | badFetch k => exact ⟨_, cpuStep_badFetch hk⟩

/-- A step that ends with a fault recorded did nothing else. -/
theorem step_of_fault {s t : State} {r : FaultRecord} (h : step s = .next t) (ht : t.fault = some r) :
    r.pc = s.pc ∧ t = { s with fault := some r } := by
  obtain ⟨u, hu, rfl⟩ := step_cases h
  rw [ticksAfter_fault] at ht
  rw [ticksAfter_of_some ht]
  obtain ⟨k, rfl⟩ | ⟨hnone, -⟩ := cpuStep_ends hu
  · cases ht
    exact ⟨rfl, rfl⟩
  · cases hnone.symm.trans ht

/-- Settles O9: a raise restores the snapshot, ticks record no fault, and a reset clears the record. -/
theorem faultFreezes : Obligations.FaultFreezes := by
  unfold Obligations.FaultFreezes
  refine ⟨fun s t r _ => step_of_fault, fun s r h => ?_, fun p d s => by cases p <;> rfl⟩
  have hcpu := cpuStep_frozen h
  exact ⟨by rw [step, systemStep, hcpu], by rw [stepResult, hcpu]⟩

/-- Settles O6: an awake machine runs what it decodes, and as many ticks follow as it cost. -/
theorem stepRunsDecoded : Obligations.StepRunsDecoded := by
  unfold Obligations.StepRunsDecoded
  intro s i rest hf hh hs hi hd
  have hasleep : s.asleep = false := by simp [State.asleep, hh, hs]
  have hk : s.stepKind = .instr i :=
    State.stepKind_instr hf hasleep (by rcases hi with h | h <;> simp [h]) (fetch_of_decode hd)
  have hawake : s.awake = s := State.awake_eq_self hasleep
  obtain ⟨t, ht⟩ := exec_next i s
  have hstep := step_of_cpuStep (cpuStep_instr hk (hawake.symm ▸ ht))
  refine ⟨fun u hu hnone => ?_, fun u r hu hr => ?_, fun r hr => ?_, fun r hr => ?_⟩
  · cases ht.symm.trans hu
    rw [hstep, restoreOnRaise_of_none hnone, ticksAfter_of_none hnone]
  · cases ht.symm.trans hu
    rw [hstep, restoreOnRaise_of_some hr, ticksAfter_of_some rfl]
  · cases ht.symm.trans hr
  · cases ht.symm.trans hr

/-- Settles O8: an idle step, by its kind. -/
theorem idleStep : Obligations.IdleStep := by
  unfold Obligations.IdleStep
  intro s hf hs hw
  have hk := State.stepKind_idle hf (s.asleep_eq_true_iff.mpr hs) (s.wakes_eq_false_iff.mpr hw)
  have hcpu := cpuStep_idle hf hk
  have hticks := ticksAfter_of_none (s := s) (t := { s with cycles := s.cycles + 4 }) hf
  refine ⟨hcpu, ?_, ?_⟩
  · rw [step_of_cpuStep hcpu, hticks, Nat.add_sub_cancel_left]
  · simp [stepResult, hcpu, hf, hk]

/-! ## Waking and dispatching -/

/-- A CPU that wakes takes the step it takes awake, but for what a raise puts back. -/
theorem cpuStep_of_wakes {s u : State} (hf : s.fault = none) (hw : s.wakes = true) (h : cpuStep s.awake = .next u) :
    cpuStep s = .next (restoreOnRaise s u) := by
  have hk := State.stepKind_awake hf (s := s) (by simp [hw])
  have hrestore (v : State) : restoreOnRaise s (restoreOnRaise s.awake v) = restoreOnRaise s v := by
    cases hv : v.fault with
    | none => rw [restoreOnRaise_of_none hv]
    | some r => rw [restoreOnRaise_of_some hv, restoreOnRaise_of_some hv, restoreOnRaise_of_some rfl]
  obtain ⟨-, ⟨hidle, -⟩ | ⟨v, rfl, ⟨k, hd, hv⟩ | ⟨i, hi, hv⟩ | ⟨k, hb, rfl⟩⟩⟩ := cpuStep_cases h
  · cases State.asleep_of_stepKind_idle (s := s.awake) hf hidle
  · rw [hrestore]
    exact cpuStep_dispatch (hk ▸ hd) hv
  · rw [hrestore]
    exact cpuStep_instr (hk ▸ hi) hv
  · rw [hrestore]
    exact cpuStep_badFetch (hk ▸ hb)

/-- Settles O7: the CPU step is that of the awake CPU, and so are the ticks, unless it raised. -/
theorem wakeUp : Obligations.WakeUp := by
  unfold Obligations.WakeUp
  intro s t hf _ hs hp ht
  obtain ⟨u, hu, rfl⟩ := step_cases ht
  have hstep := step_of_cpuStep (cpuStep_of_wakes hf (State.wakes_of_pending hp hs) hu)
  rw [ticksAfter_fault]
  refine ⟨fun hnone => ?_, fun r hr => ?_⟩
  · rw [hstep, restoreOnRaise_of_none hnone]
    rfl
  · rw [hstep, restoreOnRaise_of_some hr, ticksAfter_of_some rfl]

theorem State.pending_getLsbD (s : State) {j : Nat} (hj : j < 5) :
    s.pending.getLsbD j = ((s.readByte addrIE).getLsbD j && (s.readByte addrIF).getLsbD j) := by
  have h1F : (0x1F#8).getLsbD j = true := by interval_cases j <;> rfl
  rw [State.pending, BitVec.getLsbD_and, BitVec.getLsbD_and, h1F, Bool.and_true]

/-- The lowest set bit of a pending set, if it has one (rules R421, R422). -/
theorem lowestPending_eq {p : Byte} {k : Nat} (hp : p &&& 0x1F#8 ≠ 0#8) (hk : p.getLsbD k = true)
    (hlow : ∀ j < k, p.getLsbD j = false) : lowestPending p = k := by
  obtain ⟨hset, hbelow⟩ := lowestPending_spec p hp
  rcases Nat.lt_trichotomy (lowestPending p) k with h | h | h
  · rw [hlow _ h] at hset
    cases hset
  · exact h
  · rw [hbelow k h] at hk
    cases hk

/-- Interrupt k is the one to dispatch when it is the lowest both enabled and requested. -/
theorem State.lowestPending_pending {s : State} {k : Nat} (hk : k < 5) (hie : (s.readByte addrIE).getLsbD k = true)
    (hif : (s.readByte addrIF).getLsbD k = true)
    (hlow : ∀ j < k, ((s.readByte addrIE).getLsbD j && (s.readByte addrIF).getLsbD j) = false) :
    s.pending ≠ 0#8 ∧ lowestPending s.pending = k := by
  have hbit : s.pending.getLsbD k = true := by rw [s.pending_getLsbD hk, hie, hif, Bool.and_self]
  have hne : s.pending ≠ 0#8 := by
    intro h
    rw [h] at hbit
    simp at hbit
  have hmask : s.pending &&& 0x1F#8 = s.pending := by rw [State.pending, BitVec.and_assoc, BitVec.and_self]
  refine ⟨hne, lowestPending_eq (hmask.symm ▸ hne) hbit fun j hj => ?_⟩
  rw [s.pending_getLsbD (by omega), hlow j hj]

theorem clearRequest_eq (v : Byte) {k : Nat} (hk : k < 5) : clearRequest v k = v &&& ~~~(1#8 <<< k) := by
  interval_cases k <;> rfl

/-- Settles O11: a dispatch by its kind of step, and the push that can undo it. -/
theorem dispatchEntersHandler : Obligations.DispatchEntersHandler := by
  unfold Obligations.DispatchEntersHandler
  intro s k hf hime hs hk hie hif hlow
  obtain ⟨hp, hlowest⟩ := State.lowestPending_pending hk hie hif hlow
  have hkind : s.stepKind = .dispatch k := by
    rw [← hlowest]
    exact State.stepKind_dispatch hf (by simp [State.wakes_of_pending hp hs]) (by simp [hime, hp])
  have hd := dispatchInterrupt_eq s.awake
  rw [show lowestPending s.awake.pending = k from hlowest, clearRequest_eq _ hk] at hd
  refine ⟨fun hsp => ?_, fun hsp => ?_⟩
  · rw [if_neg (show s.awake.sp ≠ 0x0001#16 from hsp)] at hd
    have hcpu := cpuStep_dispatch hkind hd
    rw [restoreOnRaise_of_none (by exact hf)] at hcpu
    have hcost : s.awake.cycles + 20 - s.cycles = 20 := Nat.add_sub_cancel_left s.cycles 20
    refine ⟨_, hcpu, rfl, ?_, ?_⟩
    · rw [step_of_cpuStep hcpu, ticksAfter_of_none (by exact hf), hcost]
    · simp [stepResult, hcpu, hkind, hf, State.awake]
  · rw [if_pos (show s.awake.sp = 0x0001#16 from hsp)] at hd
    exact step_of_cpuStep_faulted (cpuStep_dispatch hkind hd)

/-! ## Cost -/

/-- Settles O14: a raise puts `cycles` back, and an instruction that completes is decoded, so its row gives the cost. -/
theorem cyclesFollowTable : Obligations.CyclesFollowTable := by
  unfold Obligations.CyclesFollowTable
  intro s t h
  have hf := (cpuStep_cases h).1
  obtain ⟨k, rfl⟩ | ⟨hnone, hends⟩ := cpuStep_ends h
  · exact ⟨fun _ => rfl, nofun⟩
  refine ⟨fun hsome => by simp [hnone] at hsome, fun _ => ?_⟩
  obtain ⟨hk, rfl⟩ | ⟨k, hk, hd⟩ | ⟨i, hk, hi⟩ := hends <;> rw [hk]
  · exact ⟨fun _ => rfl, fun _ h => by simp at h, fun _ h => by simp at h⟩
  · refine ⟨fun h => by simp at h, fun _ _ => ?_, fun _ h => by simp at h⟩
    rw [dispatchInterrupt_eq] at hd
    split at hd <;> cases hd
    · cases hnone
    · rfl
  · refine ⟨fun h => by simp at h, fun _ h => by simp at h, fun j hj => ?_⟩
    cases hj
    obtain ⟨rest, hdec⟩ := decode_of_stepKind hk
    obtain ⟨k, -, hraise⟩ | ⟨-, -, u, hu, -, hcost⟩ := endsByTable i (encodeInvertsDecode _ _ _ hdec).1 s.awake
    · cases hraise.symm.trans hi
      cases hnone
    · cases hu.symm.trans hi
      exact hcost

/-- A CPU step that completes costs at least 4 cycles (rules R401, R404, R422). -/
theorem cpuStep_cost {s t : State} (h : cpuStep s = .next t) (hnone : t.fault = none) : s.cycles + 4 ≤ t.cycles := by
  obtain ⟨hidle, hdispatch, hinstr⟩ := (cyclesFollowTable s t h).2 hnone
  obtain ⟨k, rfl⟩ | ⟨-, ⟨hk, -⟩ | ⟨k, hk, -⟩ | ⟨i, hk, hi⟩⟩ := cpuStep_ends h
  · cases hnone
  · rw [hidle hk]
  · rw [hdispatch k hk]
    omega
  · obtain ⟨rest, hdec⟩ := decode_of_stepKind hk
    obtain ⟨k, -, hraise⟩ | ⟨-, h4, -⟩ := endsByTable i (encodeInvertsDecode _ _ _ hdec).1 s.awake
    · cases hraise.symm.trans hi
      cases hnone
    · rw [hinstr i hk]
      exact Nat.add_le_add_left h4 s.cycles

/-! ## Lockstep -/

/-- A CPU step leaves what is outside the CPU alone. -/
theorem cpuStep_keeps_outsideCpu {s t : State} (h : cpuStep s = .next t) : t.outsideCpu = s.outsideCpu := by
  obtain ⟨k, rfl⟩ | ⟨-, ⟨-, rfl⟩ | ⟨k, -, hd⟩ | ⟨i, -, hi⟩⟩ := cpuStep_ends h
  · rfl
  · rfl
  · rw [dispatchInterrupt_eq] at hd
    split at hd <;> cases hd
    · rfl
    · simp [State.outsideCpu, State.withoutData, State.awake]
  · exact (exec_keeps_outsideCpu hi).1

/-- Settles O55: the CPU step leaves the position alone and costs its cycles, and each tick after it moves the position
on by one. -/
theorem lockstep : Obligations.Lockstep := by
  unfold Obligations.Lockstep
  intro s t hgrid h hnone
  obtain ⟨u, hu, rfl⟩ := step_cases h
  rw [ticksAfter_fault] at hnone
  have ho := cpuStep_keeps_outsideCpu hu
  have hdot : u.dot = s.dot := (congrArg State.dot ho :)
  have hly : u.ly = s.ly := (congrArg State.ly ho :)
  have hmode : u.mode = s.mode := (congrArg State.mode ho :)
  have hgrid' : OnGrid u := by rwa [OnGrid, hdot, hly, hmode]
  have hpos : u.framePosition = s.framePosition := by rw [State.framePosition, hdot, hly, State.framePosition]
  obtain ⟨hend, hmoved⟩ := ppuTicks_position (u.cycles - s.cycles) hgrid'
  rw [ticksAfter_of_none hnone, ppuTicks_cycles, hmoved, hpos]
  exact ⟨cpuStep_cost hu hnone, rfl, hend⟩

/-! ## The causes of faults -/

section

variable {s : State} {i : Instr} {rest : List Byte} (hd : decode (s.bytesAt s.pc) = .ok (i, rest))
include hd

/-- The byte at PC is the opcode of what it decodes to, or the 0xCB before a CB instruction (rule R111). -/
theorem mainOpcode_of_decode :
    mainOpcode i = some (s.readByte s.pc).toNat ∨ (mainOpcode i = none ∧ s.readByte s.pc = 0xCB#8) := by
  obtain ⟨more, hbytes, -⟩ := s.bytesAt_eq_cons s.pc
  have henc := (encodeInvertsDecode _ _ _ hd).2
  rw [hbytes, encode] at henc
  unfold mainOpcode
  cases hp : i.spec.isPrefixed with
  | false =>
    simp only [hp, Bool.false_eq_true, if_false, List.nil_append, List.cons_append, List.cons.injEq] at henc
    exact .inl (by rw [henc.1]; rfl)
  | true =>
    simp only [hp, if_true, List.cons_append, List.cons.injEq] at henc
    exact .inr ⟨rfl, henc.1⟩

/-- So a set of unprefixed opcodes is about the byte at PC. -/
theorem isOneOf_of_decode {ops : List Nat} (hcb : ops.contains 0xCB = false) :
    isOneOf i ops = ops.contains (s.readByte s.pc).toNat := by
  unfold isOneOf
  obtain h | ⟨h, hb⟩ := mainOpcode_of_decode hd <;> rw [h]
  rw [hb]
  exact hcb.symm

/-- A conditional call or return is taken when the condition of the byte at PC holds (rules R114, R117). -/
theorem taken_of_decode {ops : List Nat} (hcb : ops.contains 0xCB = false)
    (hsub : ∀ v ∈ ops, v ∈ conditionalOpcodes) (f : Byte) :
    (isOneOf i ops && taken i f) =
      (ops.contains (s.readByte s.pc).toNat && holds (opcodeCond (s.readByte s.pc).toNat) f) := by
  rw [isOneOf_of_decode hd hcb]
  cases hc : ops.contains (s.readByte s.pc).toNat with
  | false => rfl
  | true =>
    have hmem : (s.readByte s.pc).toNat ∈ ops := List.contains_iff_mem.mp hc
    have hcond : (jumpIfOpcodes ++ callIfOpcodes ++ retIfOpcodes).contains (s.readByte s.pc).toNat = true :=
      List.contains_iff_mem.mpr (hsub _ hmem)
    obtain h | ⟨-, hb⟩ := mainOpcode_of_decode hd
    · rw [taken, h]
      simp only [hcond, if_true]
    · rw [hb] at hc
      cases hcb.symm.trans hc

/-- The opcode 0x08 is `LD (a16),SP` with the two bytes after it. -/
theorem eq_ldAtA16SP_of_decode (hop : s.readByte s.pc = 0x08#8) :
    i = .ldAtA16SP (s.readByte (s.pc + 1)) (s.readByte (s.pc + 2)) := by
  have hopen : openOpcode 0x08#8 = .imm16 .ldAtA16SP := rfl
  unfold State.bytesAt at hd
  rw [hop] at hd
  split at hd
  · simp only [decode, hopen, Except.ok.injEq, Prod.mk.injEq] at hd
    exact hd.1.symm
  · split at hd <;> simp [decode, hopen] at hd

theorem wordTarget_of_decode :
    wordTarget i s = some 0xFFFF#16 ↔ (s.readByte s.pc).toNat = 0x08 ∧ wordAt s (s.pc + 1) = 0xFFFF#16 := by
  have hop : isOneOf i [0x08] = true ↔ (s.readByte s.pc).toNat = 0x08 := by
    rw [isOneOf_of_decode hd rfl]
    simp
  by_cases h : (s.readByte s.pc).toNat = 0x08
  · have hnext : s.pc + 1 + 1 = s.pc + 2 := by bv_omega
    rw [eq_ldAtA16SP_of_decode hd (BitVec.eq_of_toNat_eq h), ← wordOfBytes_eq_wordAt, hnext]
    simp [wordTarget_ldAtA16SP, State.imm16, h]
  · have hnone : wordTarget i s = none := if_neg (mt hop.mp h)
    simp [hnone, h]

/-- The causes about instructions, by the byte at PC: the tail of the table of causes (rule R411). -/
theorem instrFault_of_decode :
    instrFault i s =
      if illegalOpcodes.contains (s.readByte s.pc).toNat then some .invalidOperand
      else if s.sp = 0x0001#16 ∧ (pushOpcodes.contains (s.readByte s.pc).toNat ||
          (callIfOpcodes.contains (s.readByte s.pc).toNat && holds (opcodeCond (s.readByte s.pc).toNat) s.f)) then
        some .addressOutOfRange
      else if s.sp = 0xFFFF#16 ∧ (popOpcodes.contains (s.readByte s.pc).toNat ||
          (retIfOpcodes.contains (s.readByte s.pc).toNat && holds (opcodeCond (s.readByte s.pc).toNat) s.f)) then
        some .addressOutOfRange
      else if (s.readByte s.pc).toNat = 0x08 ∧ wordAt s (s.pc + 1) = 0xFFFF#16 then some .addressOutOfRange
      else none := by
  have hpush : pushes i s.f = (pushOpcodes.contains (s.readByte s.pc).toNat ||
      (callIfOpcodes.contains (s.readByte s.pc).toNat && holds (opcodeCond (s.readByte s.pc).toNat) s.f)) := by
    rw [pushes, isOneOf_of_decode hd rfl, taken_of_decode hd rfl (by decide)]
  have hpop : pops i s.f = (popOpcodes.contains (s.readByte s.pc).toNat ||
      (retIfOpcodes.contains (s.readByte s.pc).toNat && holds (opcodeCond (s.readByte s.pc).toNat) s.f)) := by
    rw [pops, isOneOf_of_decode hd rfl, taken_of_decode hd rfl (by decide)]
  simp only [instrFault, isOneOf_of_decode hd (ops := illegalOpcodes) rfl, hpush, hpop, wordTarget_of_decode hd,
    Bool.and_eq_true, beq_iff_eq, and_comm (b := s.sp = _)]

end

/-! The table of causes by the kind of step, in its order. -/

section

variable {s : State}

/-- The table's test for an idle CPU is that of the step (rules R401, R430). -/
theorem idle_condition (s : State) :
    ((s.halted || s.stopped) && (s.readByte 0xFFFF#16 &&& s.readByte 0xFF0F#16 &&& 0x1F#8 == 0#8 ||
      (s.stopped && s.cfg.stopWake == .never))) = (s.asleep && !s.wakes) := by
  rw [State.wakes, Bool.not_and, Bool.not_not, bne, Bool.not_not]
  rfl

theorem faultCause_of_idle (h : (s.asleep && !s.wakes) = true) : faultCause s = none := by
  unfold faultCause
  simp only [idle_condition, h, if_true]

theorem faultCause_of_dispatch (h : (s.asleep && !s.wakes) = false) (hi : (s.ime && s.pending != 0#8) = true) :
    faultCause s = if s.sp = 0x0001#16 then some .addressOutOfRange else none := by
  unfold faultCause
  simp only [idle_condition, h, Bool.false_eq_true, if_false]
  exact if_pos hi

section

variable (h : (s.asleep && !s.wakes) = false) (hi : (s.ime && s.pending != 0#8) = false)
include h hi

theorem faultCause_of_badFetch {k : FaultKind} (hk : s.fetch = .error k) : faultCause s = some k := by
  obtain ⟨rfl, hpast⟩ := ((fetchPastEndFaults s).1 k).mp hk
  unfold faultCause
  simp only [idle_condition, h, Bool.false_eq_true, if_false]
  exact (if_neg (Bool.eq_false_iff.mp hi)).trans (if_pos hpast)

theorem faultCause_of_instr {i : Instr} {rest : List Byte} (hd : decode (s.bytesAt s.pc) = .ok (i, rest)) :
    faultCause s = instrFault i s := by
  have hin : ¬ 0xFFFF < s.pc.toNat + (opcodeLength (s.readByte s.pc) - 1) :=
    Nat.not_lt.mpr (s.bytesAt_isOk_iff.mp ⟨_, hd⟩)
  rw [instrFault_of_decode hd]
  unfold faultCause
  simp only [idle_condition, h, Bool.false_eq_true, if_false]
  exact (if_neg (Bool.eq_false_iff.mp hi)).trans (if_neg hin)

end

end

/-- Settles O10: each kind of step ends in the fault that the table of causes gives it. -/
theorem faultCauses : Obligations.FaultCauses := by
  unfold Obligations.FaultCauses
  refine ⟨fun s hf => ?_, fun n s h => rstStep_of_not_target h s⟩
  suffices h : ∃ u, cpuStep s = .next u ∧ u.fault.map FaultRecord.kind = faultCause s by
    obtain ⟨u, hu, hcause⟩ := h
    exact ⟨_, step_of_cpuStep hu, by rw [ticksAfter_fault, hcause]⟩
  cases hidle : s.asleep && !s.wakes with
  | true =>
    rw [faultCause_of_idle hidle]
    obtain ⟨hs, hw⟩ : s.asleep = true ∧ s.wakes = false := by simpa using hidle
    exact ⟨_, cpuStep_idle hf (State.stepKind_idle hf hs hw), by rw [hf]; rfl⟩
  | false =>
    cases hdisp : s.ime && s.pending != 0#8 with
    | true =>
      rw [faultCause_of_dispatch hidle hdisp]
      have hd := dispatchInterrupt_eq s.awake
      have hsp : s.awake.sp = s.sp := rfl
      rw [hsp] at hd
      split at hd
      · exact ⟨_, cpuStep_dispatch (State.stepKind_dispatch hf hidle hdisp) hd, by rw [if_pos ‹_›]; rfl⟩
      · refine ⟨_, cpuStep_dispatch (State.stepKind_dispatch hf hidle hdisp) hd, ?_⟩
        rw [if_neg ‹_›, restoreOnRaise_of_none (by exact hf)]
        exact congrArg _ hf
    | false =>
      cases hfetch : s.fetch with
      | error k =>
        rw [faultCause_of_badFetch hidle hdisp hfetch]
        exact ⟨_, cpuStep_badFetch (State.stepKind_of_fetch_error hf hidle hdisp hfetch), rfl⟩
      | ok i =>
        have hk : s.stepKind = .instr i := State.stepKind_of_fetch hf hidle hdisp hfetch
        obtain ⟨rest, hdec⟩ := decode_of_stepKind hk
        rw [faultCause_of_instr hidle hdisp hdec]
        obtain ⟨k, hcause, hx⟩ | ⟨hcause, -, u, hx, hu, -⟩ :=
          endsByTable i (encodeInvertsDecode _ _ _ hdec).1 s.awake
        · exact ⟨_, cpuStep_instr hk hx, hcause.symm⟩
        · refine ⟨_, cpuStep_instr hk hx, ?_⟩
          have hnone : u.fault = none := hu.trans hf
          rw [restoreOnRaise_of_none hnone, hnone]
          exact hcause.symm

end Sys2Proof.Machine

/-! PROOFS. The pixel compositor (65_ppu.md). The statements' terms, written from the rules, are the model's functions:
tile rows and maps, palettes, sprite rows. The lines of O57, the pixels of O58 and O60 and the sprites of O59 follow. -/

namespace Sys2Proof.Machine

open Claims

/-! ## Tiles and maps -/

/-- A bit of each of the two planes (rule R464). -/
theorem colourIndex_eq (lo hi : Byte) (p : Nat) :
    colourIndex lo hi p = 2 * (hi.toNat / 2 ^ (7 - p) % 2) + lo.toNat / 2 ^ (7 - p) % 2 := by
  simp only [colourIndex, BitVec.getLsbD, Nat.toNat_testBit]
  omega

theorem tilePixel_eq_rowPixel (s : State) (tile r p : Nat) : tilePixel s tile r p = rowPixel s (tile + 2 * r) p :=
  colourIndex_eq _ _ p

/-- A signed tile number counts from 0x9000 (rule R464). -/
theorem bgTileAddress_eq (s : State) (t : Byte) :
    bgTileAddress s t =
      if s.lcdc 4 then 0x8000 + 16 * t.toNat
      else if t.toNat < 128 then 0x9000 + 16 * t.toNat else 0x8000 + 16 * t.toNat := by
  have ht := t.isLt
  have hsigned : (0x9000 + 16 * t.toInt).toNat =
      if t.toNat < 128 then 0x9000 + 16 * t.toNat else 0x8000 + 16 * t.toNat := by
    rw [BitVec.toInt_eq_toNat_cond]
    split_ifs <;> omega
  rw [bgTileAddress, hsigned]

theorem mapPixel_eq_planeIndex (s : State) (base x y : Nat) :
    mapPixel s base x y = planeIndex s base x y (s.lcdc 4) := by
  rw [mapPixel, tilePixel_eq_rowPixel, bgTileAddress_eq]
  rfl

theorem windowCovers_iff {s : State} (h0 : s.lcdc 0 = true) (ly c : Nat) :
    windowCovers s ly c = true ↔
      s.lcdc 5 = true ∧ s.regNat addrWY ≤ ly ∧ s.regNat addrWX ≤ 166 ∧
        (s.regNat addrWX : Int) - s.cfg.wxOffset.val ≤ c := by
  have hint : s.regNat addrWX ≤ c + s.cfg.wxOffset.val ↔ (s.regNat addrWX : Int) - s.cfg.wxOffset.val ≤ c := by omega
  simp only [windowCovers, windowActive, h0, Bool.true_and, Bool.and_eq_true, decide_eq_true_eq, hint, and_assoc]

/-- The background index is that of the two bit planes (rules R462, R465, R466). -/
theorem bgIndex_eq (s : State) (ly c : Nat) : bgIndex s ly c = if s.lcdc 0 then planeColumn s ly c else 0 := by
  rw [bgIndex]
  by_cases h0 : s.lcdc 0 = true
  · rw [if_pos h0, if_pos h0]
    have hcond := windowCovers_iff h0 ly c
    by_cases hw : windowCovers s ly c = true
    · rw [if_pos hw, windowIndex, mapPixel_eq_planeIndex]
      exact (if_pos (hcond.mp hw)).symm
    · rw [if_neg hw, backgroundIndex, mapPixel_eq_planeIndex]
      exact (if_neg (mt hcond.mpr hw)).symm
  · rw [if_neg h0, if_neg h0]

/-! ## Palettes and lines -/

/-- Two bits of a palette, as a shift and a mask (rule R469). -/
theorem paletteShade_eq (p : Byte) (ci : Nat) : paletteShade p ci = p.toNat >>> (2 * ci) &&& 3 := by
  rw [paletteShade, Nat.shiftRight_eq_div_pow, Nat.pow_mul]
  exact (Nat.and_two_pow_sub_one_eq_mod _ 2).symm

theorem pixelShade_eq_shadeOf (s : State) (p : Pixel) : pixelShade s p = shadeOf s p := by
  unfold pixelShade shadeOf
  cases p.paletteSource <;> simp only [paletteShade_eq] <;> rfl

theorem composite_getElem? {s : State} {ly c : Nat} (h7 : s.lcdc 7 = true) (hc : c < 160) :
    (composite s ly)[c]? =
      some (shadeColour s.cfg.shadeRgb (shadeOf s (mixedPixel s ly c (spriteList s ly)))) := by
  rw [composite, if_pos h7, ← pixelShade_eq_shadeOf]
  simp only [List.getElem?_map, List.getElem?_range hc, Option.map_some, columnShade]

/-- Without sprites a column shows the background (rule R468). -/
theorem mixedPixel_of_none {s : State} {ly c : Nat} {sprites : List Sprite} (h : spriteAt s ly c sprites = none) :
    mixedPixel s ly c sprites = ⟨bgIndex s ly c, .background⟩ := by
  rw [mixedPixel, h]

theorem spriteAt_of_off {s : State} (h1 : s.lcdc 1 = false) (ly c : Nat) (sprites : List Sprite) :
    spriteAt s ly c sprites = none := by
  rw [spriteAt, h1]
  rfl

/-- Settles O57: a line is white by rule R461, or has background index 0 and no sprite at every column. -/
theorem blankLines : Obligations.BlankLines := by
  unfold Obligations.BlankLines
  refine fun s ly => ⟨?_, fun h7 => ?_, fun h7 h0 h1 => ?_⟩
  · simpa [Scanline.full] using composite_full s ly
  · exact if_neg (ne_true_of_eq_false h7)
  · have hshade (c : Nat) : columnShade s ly (spriteList s ly) c = 0 := by
      rw [columnShade, mixedPixel_of_none (spriteAt_of_off h1 ly c _)]
      exact if_neg (ne_true_of_eq_false h0)
    rw [composite, if_pos (show s.lcdc 7 = true from h7)]
    simp [hshade, shadeColour]

/-- Settles O58: with sprites off each column shows the background, and its index is that of the two bit planes. -/
theorem backgroundAndWindow : Obligations.BackgroundAndWindow := by
  unfold Obligations.BackgroundAndWindow
  intro s ly c hc lcdc h7 h0 h1
  rw [composite_getElem? h7 hc, mixedPixel_of_none (spriteAt_of_off h1 ly c _), bgIndex_eq]
  exact congrArg (fun shade => some (shadeColour s.cfg.shadeRgb shade))
    ((if_pos h0).trans (by rw [if_pos (show s.lcdc 0 = true from h0)]))

/-! ## Which sprites a line has -/

/-- The OAM indices of a line's sprites: the first ten whose entries cover it (rule R463). -/
def keptIndices (s : State) (ly : Nat) : List Nat :=
  ((List.range 40).filter fun i => (oamEntry s i).onLine (spriteHeight s) ly).take 10

theorem spriteList_eq_map (s : State) (ly : Nat) : spriteList s ly = (keptIndices s ly).map (oamEntry s) := by
  rw [spriteList, keptIndices, List.filter_map, List.map_take]
  rfl

theorem mem_keptIndices {s : State} {ly i : Nat} (h : i ∈ keptIndices s ly) :
    i < 40 ∧ (oamEntry s i).onLine (spriteHeight s) ly = true := by
  have hmem := List.mem_filter.mp (List.mem_of_mem_take h)
  exact ⟨List.mem_range.mp hmem.1, hmem.2⟩

theorem keptIndices_pairwise (s : State) (ly : Nat) : (keptIndices s ly).Pairwise (· < ·) :=
  (List.pairwise_lt_range.filter _).take

/-- An entry that covers the line and is left out comes after ten that are kept. -/
theorem keptIndices_full {s : State} {ly i : Nat} (hi : i < 40)
    (hc : (oamEntry s i).onLine (spriteHeight s) ly = true) (hout : i ∉ keptIndices s ly) :
    (keptIndices s ly).length = 10 ∧ ∀ j ∈ keptIndices s ly, j < i := by
  unfold keptIndices at hout ⊢
  generalize hl : ((List.range 40).filter fun i => (oamEntry s i).onLine (spriteHeight s) ly) = covering at hout ⊢
  have hmem : i ∈ covering := hl ▸ List.mem_filter.mpr ⟨List.mem_range.mpr hi, hc⟩
  have hsorted : covering.Pairwise (· < ·) := hl ▸ List.pairwise_lt_range.filter _
  rw [← List.take_append_drop 10 covering] at hmem hsorted
  have hdrop : i ∈ covering.drop 10 := (List.mem_append.mp hmem).resolve_left hout
  have hlen := List.length_pos_of_mem hdrop
  rw [List.length_drop] at hlen
  refine ⟨?_, fun j hj => (List.pairwise_append.mp hsorted).2.2 j hj i hdrop⟩
  rw [List.length_take]
  omega

/-! ## The pixel of a sprite -/

theorem spriteHeight_eq (s : State) :
    (spriteHeight s : Int) = if (s.readByte 0xFF40#16).getLsbD 2 then 16 else 8 := by
  change (((if (s.readByte 0xFF40#16).getLsbD 2 then 16 else 8 : Nat)) : Int) = _
  split <;> rfl

/-- The rule's range, on integers (rule R463). -/
theorem onLine_iff (sp : Sprite) (h ly : Nat) :
    sp.onLine h ly = true ↔ (sp.y : Int) - 16 ≤ ly ∧ (ly : Int) < (sp.y : Int) - 16 + h := by
  simp only [Sprite.onLine, Bool.and_eq_true, decide_eq_true_eq]
  omega

theorem covers_iff (sp : Sprite) (c : Nat) :
    sp.covers c = true ↔ 0 ≤ (c : Int) - ((sp.x : Int) - 8) ∧ (c : Int) - ((sp.x : Int) - 8) < 8 := by
  simp only [Sprite.covers, Bool.and_eq_true, decide_eq_true_eq]
  omega

/-- Clearing bit 0 of a tile number (rule R467). -/
theorem evenTile_toNat (t : Byte) : (t &&& 0xFE#8).toNat = t.toNat / 2 * 2 := by
  revert t
  decide +kernel

/-- The row of a sprite's tile on a line, flipped or not, as rule R467 counts it. -/
def spriteRow (s : State) (ly : Nat) (sp : Sprite) : Int :=
  if sp.attr.getLsbD 6 then
    (if (s.readByte 0xFF40#16).getLsbD 2 then 16 else 8) - 1 - ((ly : Int) - ((sp.y : Int) - 16))
  else (ly : Int) - ((sp.y : Int) - 16)

/-- The pixel of that row at a column, flipped or not, as rule R467 counts it. -/
def spritePx (c : Nat) (sp : Sprite) : Int :=
  if sp.attr.getLsbD 5 then 7 - ((c : Int) - ((sp.x : Int) - 8)) else (c : Int) - ((sp.x : Int) - 8)

theorem spriteIndex_eq (s : State) (ly c : Nat) (sp : Sprite) :
    spriteIndex s ly c sp =
      rowPixel s (0x8000 + 16 * (if (s.readByte 0xFF40#16).getLsbD 2 then
        (sp.tile &&& 0xFE#8).toNat + (spriteRow s ly sp).toNat / 8 else sp.tile.toNat) +
          2 * ((spriteRow s ly sp).toNat % 8)) (spritePx c sp).toNat := rfl

/-- On a line and at a column that a sprite covers, its row and pixel are in range, so the rule's integers are the
model's natural numbers (rule R467). -/
theorem index_eq_spriteIndex {s : State} {ly c : Nat} {sp : Sprite} (hline : sp.onLine (spriteHeight s) ly = true)
    (hcol : sp.covers c = true) : sp.index s ly c = spriteIndex s ly c sp := by
  rw [onLine_iff] at hline
  rw [covers_iff] at hcol
  have hrow : (if sp.attr.getLsbD 6 then spriteHeight s - 1 - (ly + 16 - sp.y) else ly + 16 - sp.y) =
      (spriteRow s ly sp).toNat := by
    rw [spriteRow, ← spriteHeight_eq]
    split <;> omega
  have hpx : (if sp.attr.getLsbD 5 then 7 - (c + 8 - sp.x) else c + 8 - sp.x) = (spritePx c sp).toNat := by
    rw [spritePx]
    split <;> omega
  have htall : spriteHeight s = 16 ↔ (s.readByte 0xFF40#16).getLsbD 2 = true := by
    change (if (s.readByte 0xFF40#16).getLsbD 2 then 16 else 8) = 16 ↔ _
    split
    · next h2 => exact iff_of_true rfl h2
    · next h2 => exact iff_of_false (by decide) h2
  rw [spriteIndex_eq, ← hrow, ← hpx, evenTile_toNat, ← tilePixel_eq_rowPixel, Sprite.index]
  simp only [htall]

/-- Settles O59: the list by its OAM indices, and a sprite's pixel on the integers of rule R467. -/
theorem spriteSelection : Obligations.SpriteSelection := by
  unfold Obligations.SpriteSelection
  intro s ly h covers
  have hcovers (sp : Sprite) : covers sp ↔ sp.onLine (spriteHeight s) ly = true := by
    rw [onLine_iff, spriteHeight_eq]
  refine ⟨fun i _ => ⟨rfl, ?_, ?_, ?_⟩, ⟨keptIndices s ly, spriteList_eq_map s ly, List.length_take_le _ _,
    keptIndices_pairwise s ly, fun i hi => ?_, fun i hi hc => ?_⟩, fun sp c => ⟨covers_iff sp c, fun hl hc => ?_⟩⟩
  · rw [show 0xFE01 + 4 * i = 0xFE00 + 4 * i + 1 by omega]
    rfl
  · rw [show 0xFE02 + 4 * i = 0xFE00 + 4 * i + 2 by omega]
    rfl
  · rw [show 0xFE03 + 4 * i = 0xFE00 + 4 * i + 3 by omega]
    rfl
  · obtain ⟨hlt, hon⟩ := mem_keptIndices hi
    exact ⟨hlt, (hcovers _).mpr hon⟩
  · exact keptIndices_full hi ((hcovers _).mp hc)
  · exact index_eq_spriteIndex ((hcovers sp).mp hl) hc

/-! ## Which sprite a column shows -/

theorem firstByX_eq_none_iff (sprites : List Sprite) : firstByX sprites = none ↔ sprites = [] := by
  cases sprites with
  | nil => simp [firstByX]
  | cons q rest =>
    rw [firstByX]
    split
    · simp
    · split <;> simp

/-- The first in the order of X, the earliest on ties (rule R468). -/
theorem firstByX_spec {sprites : List Sprite} {sp : Sprite} (h : firstByX sprites = some sp) :
    ∃ before after, sprites = before ++ sp :: after ∧ (∀ q ∈ before, sp.x < q.x) ∧ (∀ q ∈ after, sp.x ≤ q.x) := by
  induction sprites generalizing sp with
  | nil => cases h
  | cons first rest ih =>
    rw [firstByX] at h
    split at h
    · next hnone =>
      cases h
      exact ⟨[], rest, rfl, by simp, by simp [(firstByX_eq_none_iff rest).mp hnone]⟩
    · next best hbest =>
      obtain ⟨before, after, hrest, hbefore, hafter⟩ := ih hbest
      split at h
      · next hlt =>
        cases h
        exact ⟨first :: before, after, by rw [hrest]; rfl, List.forall_mem_cons.mpr ⟨hlt, hbefore⟩, hafter⟩
      · next hge =>
        cases h
        refine ⟨[], rest, rfl, by simp, fun q hq => ?_⟩
        have hbq : best.x ≤ q.x := by
          rw [hrest, List.mem_append, List.mem_cons] at hq
          rcases hq with hq | rfl | hq
          · exact (hbefore q hq).le
          · exact le_rfl
          · exact hafter q hq
        omega

/-- The sprite is drawn at the column and is not transparent there. -/
def Shows (s : State) (ly c : Nat) (sp : Sprite) : Prop := sp.covers c = true ∧ sp.index s ly c ≠ 0

theorem showsBool_iff (s : State) (ly c : Nat) (sp : Sprite) :
    (sp.covers c && sp.index s ly c != 0) = true ↔ Shows s ly c sp := by
  rw [Bool.and_eq_true, bne_iff_ne]
  rfl

theorem spriteAt_of_on {s : State} (h1 : s.lcdc 1 = true) (ly c : Nat) (sprites : List Sprite) :
    spriteAt s ly c sprites = firstByX (sprites.filter fun sp => sp.covers c && sp.index s ly c != 0) :=
  if_pos h1

/-- Sprites are on where a column shows one. -/
theorem lcdc_of_spriteAt {s : State} {ly c : Nat} {sprites : List Sprite} {sp : Sprite}
    (h : spriteAt s ly c sprites = some sp) : s.lcdc 1 = true := by
  by_contra h1
  rw [spriteAt_of_off (Bool.eq_false_of_not_eq_true h1)] at h
  cases h

theorem not_shows_of_spriteAt_none {s : State} {ly c : Nat} {sprites : List Sprite} (h1 : s.lcdc 1 = true)
    (h : spriteAt s ly c sprites = none) : ∀ sp ∈ sprites, ¬ Shows s ly c sp := by
  rw [spriteAt_of_on h1, firstByX_eq_none_iff, List.filter_eq_nil_iff] at h
  exact fun sp hsp hshows => h sp hsp ((showsBool_iff s ly c sp).mpr hshows)

/-- The first of the sprites that show, in the whole list (rule R468). -/
theorem spriteAt_spec {s : State} {ly c : Nat} {sprites : List Sprite} {sp : Sprite}
    (h : spriteAt s ly c sprites = some sp) :
    ∃ before after, sprites = before ++ sp :: after ∧ Shows s ly c sp ∧
      (∀ q ∈ before, Shows s ly c q → sp.x < q.x) ∧ (∀ q ∈ after, Shows s ly c q → sp.x ≤ q.x) := by
  rw [spriteAt_of_on (lcdc_of_spriteAt h)] at h
  obtain ⟨fb, fa, hfilter, hbefore, hafter⟩ := firstByX_spec h
  obtain ⟨l₁, l₂, hl, h₁, h₂⟩ := List.filter_eq_append_iff.mp hfilter
  obtain ⟨m₁, m₂, hm, hm₁, hsp, hm₂⟩ := List.filter_eq_cons_iff.mp h₂
  refine ⟨l₁ ++ m₁, m₂, by rw [hl, hm, List.append_assoc], (showsBool_iff s ly c sp).mp hsp, ?_, ?_⟩
  · intro q hq hshows
    rcases List.mem_append.mp hq with hq | hq
    · exact hbefore q (h₁ ▸ List.mem_filter.mpr ⟨hq, (showsBool_iff s ly c q).mpr hshows⟩)
    · exact absurd ((showsBool_iff s ly c q).mpr hshows) (hm₁ q hq)
  · intro q hq hshows
    exact hafter q (hm₂ ▸ List.mem_filter.mpr ⟨hq, (showsBool_iff s ly c q).mpr hshows⟩)

/-- A column that shows a sprite shows the background where the sprite is behind it (rule R468). -/
theorem mixedPixel_of_some {s : State} {ly c : Nat} {sprites : List Sprite} {sp : Sprite}
    (h : spriteAt s ly c sprites = some sp) :
    mixedPixel s ly c sprites =
      if sp.attr.getLsbD 7 = true ∧ bgIndex s ly c ≠ 0 then ⟨bgIndex s ly c, .background⟩
      else ⟨sp.index s ly c, if sp.attr.getLsbD 4 then .object1 else .object0⟩ := by
  rw [mixedPixel, h]
  simp only [Bool.and_eq_true, bne_iff_ne]

/-- Settles O60: the sprite of a column is the first that shows, by X; the pixel and its shade follow from it. -/
theorem spritePriority : Obligations.SpritePriority := by
  unfold Obligations.SpritePriority
  intro s ly c sprites
  exact ⟨fun h1 => spriteAt_of_off h1 ly c sprites, not_shows_of_spriteAt_none, fun _ => spriteAt_spec,
    mixedPixel_of_none, fun _ => mixedPixel_of_some, bgIndex_eq s ly c, composite_getElem?, rfl, rfl, rfl, rfl, rfl⟩

end Sys2Proof.Machine

/-! PROOFS. Reset from any state (70_reset_and_hazards.md rules R501 to R503). -/

namespace Sys2Proof.Machine

open Claims

/-- What both profiles set (rule R501). -/
theorem hostReset_control {p : ResetProfile} {d : PowerOnDraw} {s t : State} (h : t = hostReset p d s) :
    t.ime = false ∧ t.eiArmed = false ∧ t.halted = false ∧ t.stopped = false ∧ t.haltbug = false ∧ t.fault = none ∧
      t.cycles = 0 ∧ t.dot = 0 ∧ t.ly = 0 ∧ t.mode = .oamSearch ∧ t.lines = [] ∧ t.frameSlot = none ∧
      t.statLine = false ∧ t.f &&& 0x0F#8 = 0#8 := by
  subst h
  cases p with
  | powerOn => exact ⟨rfl, rfl, rfl, rfl, rfl, rfl, rfl, rfl, rfl, rfl, rfl, rfl, rfl, highNibble_low d.f⟩
  | postBoot =>
    exact ⟨rfl, rfl, rfl, rfl, rfl, rfl, rfl, rfl, rfl, rfl, rfl, rfl, rfl,
      (by decide : (0xB0#8 &&& 0x0F#8) = 0#8)⟩

theorem highNibble_high (v : Byte) : highNibble v &&& 0xF0#8 = v &&& 0xF0#8 := by
  rw [highNibble, BitVec.and_assoc]
  rfl

/-- The statement's table of bytes is the model's (rule R503). -/
theorem bootBytes_eq : (postBootBytes.map fun c => (BitVec.ofNat 16 c.1, c.2)) = bootBytes := rfl

theorem writeBootBytes_eq (s : State) : s.writeBootBytes = s.writeBytes bootBytes := by
  rw [State.writeBootBytes, bootBytes_eq]

theorem bootBytes_nodup : (bootBytes.map Prod.fst).Nodup := by decide

/-- After `PostBoot` memory reads as it does once the table's bytes are written. -/
theorem readByte_hostReset_postBoot (d : PowerOnDraw) (s : State) (a : Word) :
    (hostReset .postBoot d s).readByte a = (s.resetControl.writeBytes bootBytes).readByte a := by
  have hcfg : (s.resetControl.writeBytes bootBytes).cfg = s.cfg := by rw [State.writeBytes_frame]; rfl
  rw [← writeBootBytes_eq] at hcfg ⊢
  exact State.readByte_congr (congrArg (·.bus) hcfg).symm rfl rfl a

/-- The memory `PostBoot` leaves on the default `BUS` (rules R502, R503). -/
theorem hostReset_postBoot_memory {d : PowerOnDraw} {s : State} (hb : s.cfg.bus = .flat)
    (hw : Memory.wf s.mem = true) :
    (∀ c ∈ bootBytes, (hostReset .postBoot d s).readByte c.1 = c.2) ∧
      (∀ a, a ∉ bootBytes.map Prod.fst → (hostReset .postBoot d s).readByte a = s.readByte a) ∧
      Memory.wf (hostReset .postBoot d s).mem = true := by
  refine ⟨fun c hc => ?_, fun a ha => ?_, ?_⟩
  · rw [readByte_hostReset_postBoot]
    exact State.readByte_writeBytes_mem (s := s.resetControl) hb hw bootBytes_nodup hc
  · rw [readByte_hostReset_postBoot]
    exact State.readByte_writeBytes_other bootBytes (s := s.resetControl) hb ha
  · change Memory.wf s.resetControl.writeBootBytes.mem = true
    rw [writeBootBytes_eq]
    exact State.writeBytes_wf bootBytes (s := s.resetControl) hw

/-- Settles O47: the fields of each profile, and under `PostBoot` the bytes written one after another. -/
theorem resetProfiles : Obligations.ResetProfiles := by
  unfold Obligations.ResetProfiles
  refine fun s d => ⟨fun p t ht => hostReset_control ht, fun t ht => ?_, fun t ht => ?_⟩
  · subst ht
    exact ⟨rfl, rfl, highNibble_high d.f, rfl, rfl, rfl, rfl, rfl, rfl, rfl, rfl, rfl⟩
  · subst ht
    exact ⟨rfl, (by decide : joinBytes 0x01#8 0xB0#8 = 0x01B0#16), (by decide : joinBytes 0x00#8 0x13#8 = 0x0013#16),
      (by decide : joinBytes 0x00#8 0xD8#8 = 0x00D8#16), (by decide : joinBytes 0x01#8 0x4D#8 = 0x014D#16), rfl,
      hostReset_postBoot_memory⟩

end Sys2Proof.Machine

/-! PROOFS. The breakpoint and the frame hand-off are not visible to the machine (O56; 60_exceptions.md rules R443,
R444). Every operation of a CPU step commutes with a change of the host's side; the ticks of the PPU commute up to what
they offer to the hand-off slot. -/

namespace Sys2Proof.Machine

open Claims

/-- A change of the host's side, made after an outcome. -/
def onNext (g : State → State) : Result → Result
  | .next t => .next (g t)
  | .fault r => .fault r
  | .refused r => .refused r

/-- An update of the state that neither reads the host's side nor writes it. -/
def BlindUpdate (f : State → State) : Prop :=
  ∀ s bp slot n, f (withHostSide s bp slot n) = withHostSide (f s) bp slot n

/-- An instruction's rule that neither reads the host's side nor writes it. -/
def BlindRule (rule : State → Word → Except FaultKind Effect) : Prop :=
  ∀ s next bp slot n,
    rule (withHostSide s bp slot n) next =
      (rule s next).map fun x => { x with st := withHostSide x.st bp slot n }

/-- A step that neither reads the host's side nor writes it. -/
def BlindStep (step : State → Result) : Prop :=
  ∀ s bp slot n, step (withHostSide s bp slot n) = onNext (withHostSide · bp slot n) (step s)

/-! ## The operations -/

section

variable (s : State) (bp : Option Word) (slot : Option Frame) (n : Nat)

theorem reg_withHostSide (r : R7) : (withHostSide s bp slot n).reg r = s.reg r := by cases r <;> rfl

theorem setReg_withHostSide (r : R7) (v : Byte) :
    (withHostSide s bp slot n).setReg r v = withHostSide (s.setReg r v) bp slot n := by
  cases r <;> rfl

theorem operand_withHostSide (o : Operand8) : (withHostSide s bp slot n).operand o = s.operand o := by
  cases o with
  | reg r => exact reg_withHostSide s bp slot n r
  | atHL => rfl

theorem setOperand_withHostSide (o : Operand8) (v : Byte) :
    (withHostSide s bp slot n).setOperand o v = withHostSide (s.setOperand o v) bp slot n := by
  cases o with
  | reg r => exact setReg_withHostSide s bp slot n r v
  | atHL => rfl

theorem writeByte_withHostSide (a : Word) (v : Byte) :
    (withHostSide s bp slot n).writeByte a v = withHostSide (s.writeByte a v) bp slot n := rfl

theorem setHL_withHostSide (v : Word) :
    (withHostSide s bp slot n).setHL v = withHostSide (s.setHL v) bp slot n := rfl

theorem pair_withHostSide (p : RR) : (withHostSide s bp slot n).pair p = s.pair p := by cases p <;> rfl

theorem setPair_withHostSide (p : RR) (v : Word) :
    (withHostSide s bp slot n).setPair p v = withHostSide (s.setPair p v) bp slot n := by
  cases p <;> rfl

theorem stackPair_withHostSide (p : QQ) : (withHostSide s bp slot n).stackPair p = s.stackPair p := by cases p <;> rfl

theorem setStackPair_withHostSide (p : QQ) (v : Word) :
    (withHostSide s bp slot n).setStackPair p v = withHostSide (s.setStackPair p v) bp slot n := by
  cases p <;> rfl

theorem cond_withHostSide (cc : Cond) : (withHostSide s bp slot n).cond cc = s.cond cc := by cases cc <;> rfl

theorem push16_withHostSide (v : Word) :
    (withHostSide s bp slot n).push16 v = (s.push16 v).map (withHostSide · bp slot n) := by
  rw [State.push16_eq, State.push16_eq, show (withHostSide s bp slot n).sp = s.sp from rfl]
  split <;> rfl

theorem pop16_withHostSide :
    (withHostSide s bp slot n).pop16 = s.pop16.map fun r => (r.1, withHostSide r.2 bp slot n) := by
  rw [State.pop16_eq, State.pop16_eq, show (withHostSide s bp slot n).sp = s.sp from rfl]
  split <;> rfl

theorem writeWordUp_withHostSide (a v : Word) :
    (withHostSide s bp slot n).writeWordUp a v = (s.writeWordUp a v).map (withHostSide · bp slot n) := by
  rw [State.writeWordUp_eq, State.writeWordUp_eq]
  split <;> rfl

end

/-! ## The shapes of a step -/

theorem blindStep_instrStep {len cost notTaken : Nat} {rule : State → Word → Except FaultKind Effect}
    (h : BlindRule rule) : BlindStep (instrStep len cost notTaken rule) := by
  intro s bp slot n
  have hrule := h { s with haltbug := false } (s.pcNext len) bp slot n
  cases hr : rule { s with haltbug := false } (s.pcNext len) with
  | error k =>
    rw [hr] at hrule
    rw [instrStep_error hr]
    exact instrStep_error (s := withHostSide s bp slot n) hrule
  | ok x =>
    rw [hr] at hrule
    rw [instrStep_ok hr]
    exact instrStep_ok (s := withHostSide s bp slot n) hrule

theorem blindStep_plainStep {len cost : Nat} {f : State → State} (h : BlindUpdate f) :
    BlindStep (plainStep len cost f) :=
  blindStep_instrStep fun s _ bp slot n => by rw [h s bp slot n]; rfl

theorem blindRule_conditional {cc : Cond} {body : State → Word → Except FaultKind Effect} (h : BlindRule body) :
    BlindRule fun s next => if s.cond cc then body s next else .ok { st := s, taken := false } := by
  intro s next bp slot n
  simp only [cond_withHostSide]
  split
  · exact h s next bp slot n
  · rfl

/-- A rule that only transfers control. -/
theorem blindRule_jump {target : State → Word → Word}
    (h : ∀ s next bp slot n, target (withHostSide s bp slot n) next = target s next) :
    BlindRule fun s next => .ok { st := s, target := some (target s next) } := by
  intro s next bp slot n
  simp only [h]
  rfl

theorem blindRule_callRule {target : State → Word}
    (h : ∀ s bp slot n, target (withHostSide s bp slot n) = target s) :
    BlindRule fun s next => callRule s next (target s) := by
  intro s next bp slot n
  simp only [callRule, push16_withHostSide, h]
  cases s.push16 next <;> rfl

theorem blindRule_retRule : BlindRule fun s _ => retRule s := by
  intro s next bp slot n
  simp only [retRule, pop16_withHostSide]
  cases s.pop16 <;> rfl

theorem blindRule_returnFromInterrupt : BlindRule fun s _ => returnFromInterrupt s := by
  intro s next bp slot n
  simp only [returnFromInterrupt, pop16_withHostSide]
  cases s.pop16 <;> rfl

/-! ## The steps of rows -/

theorem blindStep_ldStep (d r : Operand8) (cost : Nat) : BlindStep (ldStep d r cost) :=
  blindStep_plainStep fun s bp slot n => by rw [operand_withHostSide, setOperand_withHostSide]

theorem blindStep_ldImmStep (d : Operand8) (n8 : Byte) (cost : Nat) : BlindStep (ldImmStep d n8 cost) :=
  blindStep_plainStep fun s bp slot n => setOperand_withHostSide s bp slot n d n8

theorem blindStep_aluStep {op : AluOp} {len cost : Nat} {source : State → Byte}
    (h : ∀ s bp slot n, source (withHostSide s bp slot n) = source s) : BlindStep (aluStep op len cost source) :=
  blindStep_plainStep fun s bp slot n => by rw [h]; rfl

theorem blindStep_incStep (o : Operand8) (cost : Nat) : BlindStep (incStep o cost) :=
  blindStep_plainStep fun s bp slot n => by simp only [operand_withHostSide, setOperand_withHostSide]; rfl

theorem blindStep_decStep (o : Operand8) (cost : Nat) : BlindStep (decStep o cost) :=
  blindStep_plainStep fun s bp slot n => by simp only [operand_withHostSide, setOperand_withHostSide]; rfl

theorem blindStep_shiftStep (op : ShiftOp) (o : Operand8) (cost : Nat) : BlindStep (shiftStep op o cost) :=
  blindStep_plainStep fun s bp slot n => by
    simp only [operand_withHostSide]
    rw [show (withHostSide s bp slot n).flagC = s.flagC from rfl, setOperand_withHostSide]
    rfl

theorem blindStep_bitStep (b : Nat) (o : Operand8) (cost : Nat) : BlindStep (bitStep b o cost) :=
  blindStep_plainStep fun s bp slot n => by simp only [operand_withHostSide]; rfl

theorem blindStep_resStep (b : Nat) (o : Operand8) (cost : Nat) : BlindStep (resStep b o cost) :=
  blindStep_plainStep fun s bp slot n => by rw [operand_withHostSide, setOperand_withHostSide]

theorem blindStep_setStep (b : Nat) (o : Operand8) (cost : Nat) : BlindStep (setStep b o cost) :=
  blindStep_plainStep fun s bp slot n => by rw [operand_withHostSide, setOperand_withHostSide]

theorem blindStep_prefixStep (op : Byte) : BlindStep (prefixStep op) := by
  unfold prefixStep
  dsimp only
  split
  · exact blindStep_shiftStep _ _ _
  · exact blindStep_bitStep _ _ _
  · exact blindStep_resStep _ _ _
  · exact blindStep_setStep _ _ _

theorem blindStep_movePairStep (p : RR) (delta : Word) : BlindStep (movePairStep p delta) :=
  blindStep_plainStep fun s bp slot n => by rw [pair_withHostSide, setPair_withHostSide]

theorem blindStep_addHLStep (p : RR) : BlindStep (addHLStep p) :=
  blindStep_plainStep fun s bp slot n => by simp only [pair_withHostSide]; rfl

theorem blindStep_pushStep (q : QQ) : BlindStep (pushStep q) := by
  refine blindStep_instrStep fun s next bp slot n => ?_
  simp only [stackPair_withHostSide, push16_withHostSide]
  cases s.push16 (s.stackPair q) <;> rfl

theorem blindStep_popStep (q : QQ) : BlindStep (popStep q) := by
  refine blindStep_instrStep fun s next bp slot n => ?_
  simp only [pop16_withHostSide]
  cases s.pop16 with
  | error k => rfl
  | ok r =>
    exact congrArg (fun t => (.ok { st := t } : Except FaultKind Effect))
      (setStackPair_withHostSide r.2 bp slot n q r.1)

theorem blindStep_storeSPStep (m1 m2 : Byte) : BlindStep (storeSPStep m1 m2) := by
  refine blindStep_instrStep fun s next bp slot n => ?_
  have himm : (withHostSide s bp slot n).imm16 m1 m2 = s.imm16 m1 m2 := rfl
  simp only [himm, writeWordUp_withHostSide, show (withHostSide s bp slot n).sp = s.sp from rfl]
  cases s.writeWordUp (s.imm16 m1 m2) s.sp <;> rfl

theorem blindStep_rstStep (k : Nat) : BlindStep (rstStep k) := by
  refine blindStep_instrStep ?_
  by_cases hk : k ∈ [0x00, 0x08, 0x10, 0x18, 0x20, 0x28, 0x30, 0x38]
  · simp only [hk, if_true]
    exact blindRule_callRule fun _ _ _ _ => rfl
  · simp only [hk, if_false]
    exact fun _ _ _ _ _ => rfl

theorem blindStep_loadAStep {len cost : Nat} {address : State → Word}
    (h : ∀ s bp slot n, address (withHostSide s bp slot n) = address s) : BlindStep (loadAStep len cost address) :=
  blindStep_plainStep fun s bp slot n => by rw [h]; rfl

theorem blindStep_storeAStep {len cost : Nat} {address : State → Word}
    (h : ∀ s bp slot n, address (withHostSide s bp slot n) = address s) : BlindStep (storeAStep len cost address) :=
  blindStep_plainStep fun s bp slot n => by rw [h]; rfl

theorem blindStep_storeAMoveStep (delta : Word) : BlindStep (storeAMoveStep delta) :=
  blindStep_plainStep fun s bp slot n => by
    rw [show (withHostSide s bp slot n).hl = s.hl from rfl, show (withHostSide s bp slot n).a = s.a from rfl,
      writeByte_withHostSide, setHL_withHostSide]

theorem blindStep_haltStep : BlindStep haltStep := by
  refine blindStep_plainStep fun s bp slot n => ?_
  by_cases h : (s.cfg.haltBug && !s.ime && s.pending != 0#8) = true
  · rw [if_pos h]
    exact if_pos h
  · rw [if_neg h]
    exact if_neg h

/-! ## The instructions -/

theorem blindStep_of_hasRow {i : Instr} {len : Nat} {fl : FlagDescriptor} {step : State → Result}
    (hr : HasRow i len fl step) (h : BlindStep step) : BlindStep (exec i) := by
  obtain ⟨-, -, hx⟩ := hr
  rwa [show exec i = step from funext hx]

/-- No instruction sees the host's side. -/
theorem blindStep_exec : ∀ i : Instr, BlindStep (exec i) := by
  apply Instr.byFamily
  case ld => exact fun d r h => blindStep_of_hasRow (hasRow_ld d r h) (blindStep_ldStep d r _)
  case ldImm => exact fun o n8 => blindStep_of_hasRow (hasRow_ldImm o n8) (blindStep_ldImmStep o n8 _)
  case alu =>
    exact fun op o => blindStep_of_hasRow (hasRow_alu op o)
      (blindStep_aluStep fun s bp slot n => operand_withHostSide s bp slot n o)
  case aluImm => exact fun op n8 => blindStep_of_hasRow (hasRow_aluImm op n8) (blindStep_aluStep fun _ _ _ _ => rfl)
  case inc => exact fun o => blindStep_of_hasRow (hasRow_inc o) (blindStep_incStep o _)
  case dec => exact fun o => blindStep_of_hasRow (hasRow_dec o) (blindStep_decStep o _)
  case shift => exact fun op o => blindStep_of_hasRow (hasRow_shift op o) (blindStep_shiftStep _ _ _)
  case bit => exact fun b o => blindStep_of_hasRow (hasRow_bit b o) (blindStep_bitStep _ _ _)
  case res => exact fun b o => blindStep_of_hasRow (hasRow_res b o) (blindStep_resStep _ _ _)
  case set => exact fun b o => blindStep_of_hasRow (hasRow_set b o) (blindStep_setStep _ _ _)
  case prefixCB => exact fun op => blindStep_prefixStep op
  case ldPair =>
    exact fun p m1 m2 => blindStep_of_hasRow (hasRow_ldPair p m1 m2)
      (blindStep_plainStep fun s bp slot n => setPair_withHostSide s bp slot n p (s.imm16 m1 m2))
  case incPair => exact fun p => blindStep_of_hasRow (hasRow_incPair p) (blindStep_movePairStep p _)
  case decPair => exact fun p => blindStep_of_hasRow (hasRow_decPair p) (blindStep_movePairStep p _)
  case addHL => exact fun p => blindStep_of_hasRow (hasRow_addHL p) (blindStep_addHLStep p)
  case push => exact fun q => blindStep_of_hasRow (hasRow_push q) (blindStep_pushStep q)
  case pop => exact fun q => blindStep_of_hasRow (hasRow_pop q) (blindStep_popStep q)
  case ldAtA16SP => exact fun m1 m2 => blindStep_of_hasRow (hasRow_ldAtA16SP m1 m2) (blindStep_storeSPStep m1 m2)
  case jpIf =>
    exact fun cc m1 m2 => blindStep_of_hasRow (hasRow_jpIf cc m1 m2)
      (blindStep_instrStep (blindRule_conditional (blindRule_jump fun _ _ _ _ _ => rfl)))
  case jrIf =>
    exact fun cc n8 => blindStep_of_hasRow (hasRow_jrIf cc n8)
      (blindStep_instrStep (blindRule_conditional (blindRule_jump fun _ _ _ _ _ => rfl)))
  case callIf =>
    exact fun cc m1 m2 => blindStep_of_hasRow (hasRow_callIf cc m1 m2)
      (blindStep_instrStep (blindRule_conditional (blindRule_callRule fun _ _ _ _ => rfl)))
  case retIf =>
    exact fun cc => blindStep_of_hasRow (hasRow_retIf cc)
      (blindStep_instrStep (blindRule_conditional blindRule_retRule))
  case rst => exact fun k => blindStep_of_hasRow (hasRow_rst k) (blindStep_rstStep _)
  case jpA16 =>
    exact fun m1 m2 => blindStep_of_hasRow (hasRow_jpA16 m1 m2)
      (blindStep_instrStep (blindRule_jump fun _ _ _ _ _ => rfl))
  case jrR8 =>
    exact fun n8 => blindStep_of_hasRow (hasRow_jrR8 n8) (blindStep_instrStep (blindRule_jump fun _ _ _ _ _ => rfl))
  case jpHL => exact blindStep_of_hasRow hasRow_jpHL (blindStep_instrStep (blindRule_jump fun _ _ _ _ _ => rfl))
  case callA16 =>
    exact fun m1 m2 => blindStep_of_hasRow (hasRow_callA16 m1 m2)
      (blindStep_instrStep (blindRule_callRule fun _ _ _ _ => rfl))
  case ret => exact blindStep_of_hasRow hasRow_ret (blindStep_instrStep blindRule_retRule)
  case reti => exact blindStep_of_hasRow hasRow_reti (blindStep_instrStep blindRule_returnFromInterrupt)
  case illegal =>
    exact fun i hi => blindStep_of_hasRow (hasRow_illegal hi) (blindStep_instrStep fun _ _ _ _ _ => rfl)
  case halt => exact blindStep_of_hasRow hasRow_halt blindStep_haltStep
  case ei => exact blindStep_of_hasRow hasRow_ei (blindStep_instrStep fun _ _ _ _ _ => rfl)
  case nop => exact blindStep_of_hasRow hasRow_nop (blindStep_plainStep fun _ _ _ _ => rfl)
  case di => exact blindStep_of_hasRow hasRow_di (blindStep_plainStep fun _ _ _ _ => rfl)
  case stop => exact fun pad => blindStep_of_hasRow (hasRow_stop pad) (blindStep_plainStep fun _ _ _ _ => rfl)
  case rlca => exact blindStep_of_hasRow hasRow_rlca (blindStep_plainStep fun _ _ _ _ => rfl)
  case rrca => exact blindStep_of_hasRow hasRow_rrca (blindStep_plainStep fun _ _ _ _ => rfl)
  case rla => exact blindStep_of_hasRow hasRow_rla (blindStep_plainStep fun _ _ _ _ => rfl)
  case rra => exact blindStep_of_hasRow hasRow_rra (blindStep_plainStep fun _ _ _ _ => rfl)
  case daa => exact blindStep_of_hasRow hasRow_daa (blindStep_plainStep fun _ _ _ _ => rfl)
  case cpl => exact blindStep_of_hasRow hasRow_cpl (blindStep_plainStep fun _ _ _ _ => rfl)
  case scf => exact blindStep_of_hasRow hasRow_scf (blindStep_plainStep fun _ _ _ _ => rfl)
  case ccf => exact blindStep_of_hasRow hasRow_ccf (blindStep_plainStep fun _ _ _ _ => rfl)
  case addSPR8 => exact fun n8 => blindStep_of_hasRow (hasRow_addSPR8 n8) (blindStep_plainStep fun _ _ _ _ => rfl)
  case ldHLSPR8 => exact fun n8 => blindStep_of_hasRow (hasRow_ldHLSPR8 n8) (blindStep_plainStep fun _ _ _ _ => rfl)
  case ldSPHL => exact blindStep_of_hasRow hasRow_ldSPHL (blindStep_plainStep fun _ _ _ _ => rfl)
  case ldAtHLIncA => exact blindStep_of_hasRow hasRow_ldAtHLIncA (blindStep_storeAMoveStep _)
  case ldAtHLDecA => exact blindStep_of_hasRow hasRow_ldAtHLDecA (blindStep_storeAMoveStep _)
  case ldAAtHLInc => exact blindStep_of_hasRow hasRow_ldAAtHLInc (blindStep_plainStep fun _ _ _ _ => rfl)
  case ldAAtHLDec => exact blindStep_of_hasRow hasRow_ldAAtHLDec (blindStep_plainStep fun _ _ _ _ => rfl)
  case ldAtBCA => exact blindStep_of_hasRow hasRow_ldAtBCA (blindStep_storeAStep fun _ _ _ _ => rfl)
  case ldAtDEA => exact blindStep_of_hasRow hasRow_ldAtDEA (blindStep_storeAStep fun _ _ _ _ => rfl)
  case ldAtCA => exact blindStep_of_hasRow hasRow_ldAtCA (blindStep_storeAStep fun _ _ _ _ => rfl)
  case ldhAtA8A => exact fun n8 => blindStep_of_hasRow (hasRow_ldhAtA8A n8) (blindStep_storeAStep fun _ _ _ _ => rfl)
  case ldAtA16A =>
    exact fun m1 m2 => blindStep_of_hasRow (hasRow_ldAtA16A m1 m2) (blindStep_storeAStep fun _ _ _ _ => rfl)
  case ldAAtBC => exact blindStep_of_hasRow hasRow_ldAAtBC (blindStep_loadAStep fun _ _ _ _ => rfl)
  case ldAAtDE => exact blindStep_of_hasRow hasRow_ldAAtDE (blindStep_loadAStep fun _ _ _ _ => rfl)
  case ldAAtC => exact blindStep_of_hasRow hasRow_ldAAtC (blindStep_loadAStep fun _ _ _ _ => rfl)
  case ldhAAtA8 => exact fun n8 => blindStep_of_hasRow (hasRow_ldhAAtA8 n8) (blindStep_loadAStep fun _ _ _ _ => rfl)
  case ldAAtA16 =>
    exact fun m1 m2 => blindStep_of_hasRow (hasRow_ldAAtA16 m1 m2) (blindStep_loadAStep fun _ _ _ _ => rfl)

/-! ## The CPU step -/

theorem blindStep_dispatchInterrupt : BlindStep dispatchInterrupt := by
  intro s bp slot n
  rw [dispatchInterrupt_eq, dispatchInterrupt_eq, show (withHostSide s bp slot n).sp = s.sp from rfl]
  split <;> rfl

theorem stepKind_withHostSide (s : State) (bp : Option Word) (slot : Option Frame) (n : Nat) :
    (withHostSide s bp slot n).stepKind = s.stepKind := rfl

theorem restoreOnRaise_withHostSide (s t : State) (bp : Option Word) (slot : Option Frame) (n : Nat) :
    restoreOnRaise (withHostSide s bp slot n) (withHostSide t bp slot n) =
      withHostSide (restoreOnRaise s t) bp slot n := by
  cases h : t.fault with
  | none => rw [restoreOnRaise_of_none h, restoreOnRaise_of_none (t := withHostSide t bp slot n) h]
  | some r =>
    rw [restoreOnRaise_of_some h, restoreOnRaise_of_some (t := withHostSide t bp slot n) h]
    rfl

theorem blindStep_cpuStep : BlindStep cpuStep := by
  intro s bp slot n
  have hrestore := restoreOnRaise_withHostSide s (bp := bp) (slot := slot) (n := n)
  have hdispatch := blindStep_dispatchInterrupt s.awake bp slot n
  have hexec (i : Instr) := blindStep_exec i s.awake bp slot n
  have hawake : (withHostSide s bp slot n).awake = withHostSide s.awake bp slot n := rfl
  simp only [cpuStep, stepKind_withHostSide, hawake]
  cases s.stepKind with
  | noStep r => rfl
  | idle => exact congrArg Host.Outcome.next (hrestore { s with cycles := s.cycles + 4 })
  | badFetch k => exact congrArg Host.Outcome.next (hrestore (s.awake.raise k))
  | dispatch k =>
    simp only [hdispatch]
    cases dispatchInterrupt s.awake with
    | next t => exact congrArg Host.Outcome.next (hrestore t)
    | fault r => rfl
    | refused r => rfl
  | instr i =>
    simp only [hexec]
    cases exec i s.awake with
    | next t => exact congrArg Host.Outcome.next (hrestore t)
    | fault r => rfl
    | refused r => rfl

/-! ## The ticks -/

/-- What a tick makes of another host's side: the breakpoint stays, the slot and the count of draws may move on. -/
def HostSideApart (bp : Option Word) (s t : State) : Prop := ∃ slot n, t = withHostSide s bp slot n

theorem hostSideApart_enterVBlank {s : State} {bp : Option Word} {slot : Option Frame} {n : Nat} :
    HostSideApart bp (enterVBlank s) (enterVBlank (withHostSide s bp slot n)) := by
  rw [enterVBlank_eq, enterVBlank_eq]
  exact ⟨_, _, rfl⟩

theorem hostSideApart_endOfLine {s t : State} {bp : Option Word} (h : HostSideApart bp s t) :
    HostSideApart bp (endOfLine s) (endOfLine t) := by
  obtain ⟨slot, n, rfl⟩ := h
  rw [endOfLine, endOfLine, show (withHostSide s bp slot n).ly = s.ly from rfl]
  split_ifs
  · exact ⟨slot, n, rfl⟩
  · exact hostSideApart_enterVBlank (s := { s with dot := 0 })
  · exact ⟨slot, n, rfl⟩
  · exact ⟨slot, n, rfl⟩

theorem composite_withHostSide (s : State) (bp : Option Word) (slot : Option Frame) (n ly : Nat) :
    composite (withHostSide s bp slot n) ly = composite s ly :=
  composite_congr rfl rfl rfl ly

theorem hostSideApart_advanceDot {s t : State} {bp : Option Word} (h : HostSideApart bp s t) :
    HostSideApart bp (advanceDot s) (advanceDot t) := by
  have hend := hostSideApart_endOfLine h
  obtain ⟨slot, n, rfl⟩ := h
  rw [advanceDot, advanceDot, composite_withHostSide, show (withHostSide s bp slot n).dot = s.dot from rfl,
    show (withHostSide s bp slot n).mode = s.mode from rfl]
  split_ifs
  · exact hend
  · exact ⟨slot, n, rfl⟩
  · exact ⟨slot, n, rfl⟩
  · exact ⟨slot, n, rfl⟩

theorem statInterruptCheck_withHostSide (m : Mirrored) (bp : Option Word) (slot : Option Frame) (n : Nat) :
    statInterruptCheck { m with st := withHostSide m.st bp slot n } =
      withHostSide (statInterruptCheck m) bp slot n := by
  rw [statInterruptCheck_eq, statInterruptCheck_eq, show (withHostSide m.st bp slot n).mode = m.st.mode from rfl,
    show (withHostSide m.st bp slot n).statLine = m.st.statLine from rfl]
  split <;> rfl

theorem hostSideApart_ppuTick {s t : State} {bp : Option Word} (h : HostSideApart bp s t) :
    HostSideApart bp (ppuTick s) (ppuTick t) := by
  obtain ⟨slot, n, hdot⟩ := hostSideApart_advanceDot h
  refine ⟨slot, n, ?_⟩
  rw [ppuTick, ppuTick, hdot]
  exact statInterruptCheck_withHostSide (mirrorRegisters (advanceDot s)) bp slot n

theorem hostSideApart_ppuTicks (k : Nat) {s t : State} {bp : Option Word} (h : HostSideApart bp s t) :
    HostSideApart bp (ppuTicks k s) (ppuTicks k t) := by
  induction k generalizing s t with
  | zero => exact h
  | succ k ih => exact ih (hostSideApart_ppuTick h)

theorem hostSideApart_ticksAfter (s u : State) (bp : Option Word) (slot : Option Frame) (n : Nat) :
    HostSideApart bp (ticksAfter s u) (ticksAfter (withHostSide s bp slot n) (withHostSide u bp slot n)) := by
  have hapart : HostSideApart bp u (withHostSide u bp slot n) := ⟨slot, n, rfl⟩
  rw [ticksAfter, ticksAfter, show (withHostSide u bp slot n).fault = u.fault from rfl]
  split
  · exact hapart
  · exact hostSideApart_ppuTicks _ hapart

/-- Settles O56: the CPU step commutes with a change of the host's side, and the ticks keep states that differ there
alone so. -/
theorem hostSideUnseen : Obligations.HostSideUnseen := by
  unfold Obligations.HostSideUnseen
  intro s t bp slot n h
  obtain ⟨u, hu, rfl⟩ := step_cases h
  have hcpu := blindStep_cpuStep s bp slot n
  rw [hu] at hcpu
  obtain ⟨slot', n', hticks⟩ := hostSideApart_ticksAfter s u bp slot n
  exact ⟨slot', n', by rw [step_of_cpuStep hcpu, hticks]⟩

end Sys2Proof.Machine
